-- ==== Sys2Proof/Word.lean ====
section
/-! DEFINITION. The word types of the block: bytes, command words and the command that travels on the
command port. -/

namespace Sys2Proof

/-- The data unit: a byte of 8 bits (R6), bits numbered from 0 at the least significant end (R8). -/
abbrev Byte := BitVec 8

/-- A 16-bit command word `W` (R59), and the width of `rdata` (R35). -/
abbrev Word := BitVec 16

/-- One command as the command port carries it: a command word and a byte list, the payload
(R34, R59, R60). Payload byte 0 is the first element of the list. -/
structure Command where
  word : Word
  payload : List Byte
deriving DecidableEq, Repr, Inhabited

end Sys2Proof
end

