-- ==== Sys2Proof/Config.lean ====
section
/-! DEFINITION. What an implementation or the environment fixes, and the free values of the model:
constants with no body, of which nothing can be proved. -/

namespace Sys2Proof.Config

/-- The longest exchange: `1 <= N <= 16` (R6, R62, D11). -/
abbrev maxFrame : Nat := 16

/-- The byte an unspecified register holds, by the number of the free value drawn. Used for the contents
of `SNAP`, `TXB` and `RXB` wherever the spec calls them unspecified (R17, R31, U1, U5).
DESIGN CHOICE, log entry 6: safe, nothing constrains it. -/
opaque freeByte : Nat → BitVec 8

/-- The command an unspecified `CUR` holds, by the number of the free value drawn (R32, U5).
DESIGN CHOICE, log entry 6: safe, nothing constrains it. -/
opaque freeCommand : Nat → Command

/-- The open parameter `SPI_MODE` of the Transport: the clock polarity and phase (R119, D26, U4).
No rule reads it, and neither does the model. Log entry 14. -/
opaque spiMode : Fin 4

end Sys2Proof.Config
end

