-- ==== Sys2Proof/Syntax.lean ====
section
/-! DEFINITION. The command set PS2CTL, spec edition 1: one constructor for each row of the opcode table. -/

namespace Sys2Proof

/-- The closed set of 16 named buttons (R63), in the order of their codes (R29). -/
inductive Button where
  | select | l3 | r3 | start | up | right | down | left
  | l2 | r2 | l1 | r1 | triangle | circle | cross | square
deriving DecidableEq, Repr

/-- The closed set of four stick axes (R64), in the order of their codes (R30). -/
inductive Axis where
  | leftX | leftY | rightX | rightY
deriving DecidableEq, Repr

/-- The commands (R65). The payload of `revbuf` and `xchg` is their byte list operand; its length `N`
stands in the word as `SEL = N - 1` (R60, R62), so the constructor carries the list alone. -/
inductive Instr where
  /-- `REVB`: reverse the bits of one byte (R78). -/
  | revb (v : Byte)
  /-- `REVBUF`: reverse the bits of each byte of a buffer (R79). -/
  | revbuf (p : List Byte)
  /-- `XCHG`: exchange a host frame over the bus (R87). -/
  | xchg (p : List Byte)
  /-- `POLL`: exchange the poll frame, validate, extract (R88). -/
  | poll
  /-- `BTN`: query one named button (R95). -/
  | btn (b : Button)
  /-- `BTNS`: query all buttons at once (R96). -/
  | btns
  /-- `STICK`: query one analog axis (R97). -/
  | stick (a : Axis)
  /-- `BTN Buttons`: the one pseudo-instruction, the assembler's other spelling of `BTNS` (R71). It has
  the word of `BTNS`, so the decoder never yields it (log entry 12). -/
  | btnButtons
deriving DecidableEq, Repr

end Sys2Proof
end

