-- ==== Sys2Proof/WellFormed.lean ====
section
/-! DEFINITION. Which instructions the encoding admits. -/

namespace Sys2Proof

/-- A frame the command word can announce: `1 <= N <= 16` (R6, R62). `N = 0` cannot be encoded. -/
abbrev frameFits (p : List Byte) : Bool := decide (1 ≤ p.length ∧ p.length ≤ Config.maxFrame)

/-- An instruction the encoding admits. Every other operand field is a closed set (R63, R64) or a whole
byte (R61), so only the two payload lengths are checked. -/
def Instr.wf : Instr → Bool
  | .revb _ => true
  | .revbuf p => frameFits p
  | .xchg p => frameFits p
  | .poll => true
  | .btn _ => true
  | .btns => true
  | .stick _ => true
  | .btnButtons => true

end Sys2Proof
end

