-- ==== Sys2Proof/Decode.lean ====
section
/-! DEFINITION. The decoder of `30_encoding.md` (total, rejecting by name), and after it the encoder. -/

namespace Sys2Proof

/-- Why a command is ILLEGAL (R67, R101). The response does not say which cause applied. -/
inductive Reject where
  /-- `OP` is 0x0 or 0x8 to 0xF. -/
  | reservedOpcode
  /-- A must-be-zero `SEL` (for STICK: `SEL[3:2]`) is not zero. -/
  | nonzeroSel
  /-- A must-be-zero `IMM` is not zero. -/
  | nonzeroImm
  /-- The payload's length is not the one the word fixes (R68). -/
  | payloadLength
deriving DecidableEq, Repr

/-- What decoding yields: exactly one command, or ILLEGAL (R66). -/
inductive Decoded where
  | command (i : Instr)
  | illegal (why : Reject)
deriving DecidableEq, Repr

/-- The field `OP = W[15:12]` (R59). -/
def fieldOp (w : Word) : BitVec 4 := w.extractLsb' 12 4

/-- The field `SEL = W[11:8]` (R59). -/
def fieldSel (w : Word) : BitVec 4 := w.extractLsb' 8 4

/-- The field `IMM = W[7:0]` (R59), an unsigned byte used as it stands (R61). -/
def fieldImm (w : Word) : Byte := w.extractLsb' 0 8

/-- The high half `SEL[3:2]` of the selector, which STICK requires to be 0 (R64). -/
def selHigh (sel : BitVec 4) : BitVec 2 := sel.extractLsb' 2 2

/-- The low half `SEL[1:0]` of the selector, STICK's axis code (R64). -/
def selLow (sel : BitVec 4) : BitVec 2 := sel.extractLsb' 0 2

/-- The button a code names; every 4-bit value names one (R63, R29). -/
def Button.ofCode (k : BitVec 4) : Button :=
  match k.toNat with
  | 0 => .select | 1 => .l3 | 2 => .r3 | 3 => .start
  | 4 => .up | 5 => .right | 6 => .down | 7 => .left
  | 8 => .l2 | 9 => .r2 | 10 => .l1 | 11 => .r1
  | 12 => .triangle | 13 => .circle | 14 => .cross | _ => .square

/-- The code of a button (R63, R29). -/
def Button.code : Button → BitVec 4
  | .select => 0 | .l3 => 1 | .r3 => 2 | .start => 3
  | .up => 4 | .right => 5 | .down => 6 | .left => 7
  | .l2 => 8 | .r2 => 9 | .l1 => 10 | .r1 => 11
  | .triangle => 12 | .circle => 13 | .cross => 14 | .square => 15

/-- The axis a code names (R64, R30). -/
def Axis.ofCode (a : BitVec 2) : Axis :=
  match a.toNat with
  | 0 => .leftX | 1 => .leftY | 2 => .rightX | _ => .rightY

/-- The code of an axis (R64, R30). -/
def Axis.code : Axis → BitVec 2
  | .leftX => 0 | .leftY => 1 | .rightX => 2 | .rightY => 3

/-- The decoder goes on where a check holds and rejects by name where it does not. -/
def Decoded.require (ok : Bool) (why : Reject) (rest : Decoded) : Decoded :=
  if ok then rest else .illegal why

/-- The decoder of R66: total over every word and every payload. -/
def decode (c : Command) : Decoded :=
  let sel := fieldSel c.word
  let imm := fieldImm c.word
  let noSel := Decoded.require (sel == 0) .nonzeroSel
  let noImm := Decoded.require (imm == 0) .nonzeroImm
  let length (n : Nat) := Decoded.require (c.payload.length == n) .payloadLength
  match (fieldOp c.word).toNat with
  | 0x1 => noSel (length 0 (.command (.revb imm)))
  | 0x2 => noImm (length (sel.toNat + 1) (.command (.revbuf c.payload)))
  | 0x3 => noImm (length (sel.toNat + 1) (.command (.xchg c.payload)))
  | 0x4 => noSel (noImm (length 0 (.command .poll)))
  | 0x5 => noImm (length 0 (.command (.btn (Button.ofCode sel))))
  | 0x6 => noSel (noImm (length 0 (.command .btns)))
  | 0x7 =>
    Decoded.require (selHigh sel == 0) .nonzeroSel
      (noImm (length 0 (.command (.stick (Axis.ofCode (selLow sel))))))
  | _ => .illegal .reservedOpcode

/-- The payload length the word fixes: `SEL + 1` bytes for `OP` = 0x2 or 0x3, none otherwise (R68). -/
def payloadLength (w : Word) : Nat :=
  if fieldOp w = 0x2 ∨ fieldOp w = 0x3 then (fieldSel w).toNat + 1 else 0

/-- The command whose bits are `w`, of which `nbits` are given and the rest are zero: the word in bits
15..0, and payload byte `i`, where the word announces one (R68), in bits `8 * i + 23 .. 8 * i + 16`
(log entry 17). -/
def commandOfBits (nbits w : Nat) : Command :=
  let bits := w % 2 ^ nbits
  let word := BitVec.ofNat 16 bits
  { word, payload := (List.range (payloadLength word)).map fun i => BitVec.ofNat 8 (bits >>> (16 + 8 * i)) }

/-- The instruction the decoder reads from an instruction whose bits are `w`, none where it is ILLEGAL. -/
def decodeTableWord (nbits w : Nat) : Option Instr :=
  match decode (commandOfBits nbits w) with
  | .command i => some i
  | .illegal _ => none

/-! ### The encoder -/

/-- A command word from its three fields (R59). -/
def packWord (op sel : BitVec 4) (imm : Byte) : Word := op ++ sel ++ imm

/-- The selector of a frame of `p.length` bytes, `SEL = N - 1` (R62). -/
def lengthSel (p : List Byte) : BitVec 4 := BitVec.ofNat 4 (p.length - 1)

/-- The command of a well-formed instruction, from the opcode map of R65: fields as R59 to R64 and R70
say, every other field 0. `BTN Buttons` has the word of `BTNS` (R71). -/
def encode : Instr → Command
  | .revb v => ⟨packWord 0x1 0 v, []⟩
  | .revbuf p => ⟨packWord 0x2 (lengthSel p) 0, p⟩
  | .xchg p => ⟨packWord 0x3 (lengthSel p) 0, p⟩
  | .poll => ⟨packWord 0x4 0 0, []⟩
  | .btn b => ⟨packWord 0x5 b.code 0, []⟩
  | .btns => ⟨packWord 0x6 0 0, []⟩
  | .stick a => ⟨packWord 0x7 (a.code.zeroExtend 4) 0, []⟩
  | .btnButtons => ⟨packWord 0x6 0 0, []⟩

/-- The core command an instruction stands for: itself, but for the pseudo-instruction (R71). -/
def Instr.coreForm : Instr → Instr
  | .revb v => .revb v
  | .revbuf p => .revbuf p
  | .xchg p => .xchg p
  | .poll => .poll
  | .btn b => .btn b
  | .btns => .btns
  | .stick a => .stick a
  | .btnButtons => .btns

end Sys2Proof
end

