-- ==== Sys2Proof/Machine/State.lean ====
section
/-! DEFINITION. The block's state as plain data, the reasons a step can stop, and the state after reset. -/

namespace Sys2Proof.Machine

/-- The level of a line (R23): `low` is 0, `high` is 1. -/
inductive Level where
  | low | high
deriving DecidableEq, Repr

/-- `PHASE` (R32). -/
inductive Phase where
  | idle | busy
deriving DecidableEq, Repr

/-- The status of a response (R26); `Status.code` gives its 2-bit code. The code 0b11 is reserved and never
produced (D32), so no constructor stands for it. -/
inductive Status where
  /-- 0b00: the command completed. -/
  | ok
  /-- 0b01: the command is reserved or malformed; nothing was done. -/
  | illegal
  /-- 0b10: the Transport answered a transfer with `FAIL`. -/
  | xferErr
deriving DecidableEq, Repr

/-- One response (R35): `status`, `rdata` and `rbuf`. -/
structure Response where
  status : Status
  rdata : Word
  rbuf : List Byte
deriving DecidableEq, Repr

/-- One event of the bus history (R39). The bytes are wire values. -/
inductive Event where
  /-- Select asserted. -/
  | csAssert
  /-- Select deasserted. -/
  | csDeassert
  /-- A completed transfer: out-byte, in-byte. -/
  | xfer (o i : Byte)
  /-- A failed transfer: out-byte. -/
  | xferFail (o : Byte)
  /-- The reset input was asserted. -/
  | reset
deriving DecidableEq, Repr

/-- What the Transport answers to one transfer (R9, R36). -/
inductive Answer where
  | byte (i : Byte)
  | fail
deriving DecidableEq, Repr

/-- The position inside the exchange procedure of R80, at the granularity of R86. The MODEL's own
(DEDUCED, log entry 7): the spec implies a position and names only `XIDX`. -/
inductive Stage where
  /-- No step of the command has been taken yet. -/
  | entry
  /-- Select is asserted; the transfers are under way. -/
  | framing
  /-- A transfer failed and select is still asserted. -/
  | failing
  /-- Every transfer completed and select is deasserted again. -/
  | done
  /-- A transfer failed and select is deasserted again. -/
  | failed
deriving DecidableEq, Repr

/-- Everything the spec gives the block, and its environment's inputs to come. -/
structure State where
  /-- `SNAP[0..5]`, the controller state snapshot (R14). -/
  snap : Vector Byte 6
  /-- `CONNECTED` (R19). -/
  connected : Bool
  /-- `CS_N`, the level of the select output (R23). -/
  csN : Level
  /-- `PHASE` (R32). -/
  phase : Phase
  /-- `CUR`, the accepted command (R32). -/
  cur : Command
  /-- `XIDX`, the exchange byte index, 0..16 (R18, R32). -/
  xidx : Nat
  /-- The model's own: the position inside the exchange procedure (log entry 7). -/
  stage : Stage
  /-- `TXB[0..15]` (R31). -/
  txb : Vector Byte 16
  /-- `RXB[0..15]` (R31). -/
  rxb : Vector Byte 16
  /-- `BUS`, the bus history, oldest event first (R39). -/
  bus : List Event
  /-- The response port's output, oldest response first (R35, R39). -/
  responses : List Response
  /-- The command port: commands presented and not yet accepted, the next one first (R34; log entry 1). -/
  port : List Command
  /-- The transfer port: the Transport's answers to the coming transfers, the next one first (R36; log
  entry 2). -/
  answers : List Answer
  /-- The reset input RST: its levels at the coming steps, true where asserted (R38; log entry 9). -/
  rstIn : List Bool
  /-- The reset input RST: the level last sampled (R38; log entry 9). -/
  rst : Bool
  /-- The implementation parameter `XFER_CAN_FAIL` (R7); nothing writes it (log entry 3). -/
  xferCanFail : Bool
  /-- The model's own: how many free values have been drawn (log entry 6). -/
  freeCtr : Nat
deriving DecidableEq, Repr

/-- Why the machine stops. -/
inductive Fault where
  /-- Raised by a transfer of XCHG or POLL when the Transport has given no answer and neither an answer
  nor a reset is to come: "a model has no step for the Block in that state" (R126, U6 `stuck`). Safe:
  the model stops where the hardware waits for ever. -/
  | transportSilent
deriving DecidableEq, Repr

/-- Why the machine has no run. -/
inductive Refusal where
  /-- Raised by a refused arm of `exec`: the instruction has no meaning yet. Safe. -/
  | notModelled (mnemonic : String)
  /-- Raised by a transfer whose answer is `FAIL` in a machine whose `XFER_CAN_FAIL` is false: R7 says
  that every transfer of such a machine returns a byte, so there is no such run. Safe (log entry 3). -/
  | failExcluded
deriving DecidableEq, Repr

/-- The machine right after its first reset (R116): `CONNECTED` 0 (R21), `CS_N` 1 (R24), `PHASE` IDLE and
`XIDX` 0 (R32), and the history of one `Reset` (R39, log entry 10). DESIGN CHOICE, unsafe: the contents of
`SNAP` (log entry 4), of `TXB`, `RXB` and `CUR` (log entry 5), the number of free values drawn (log entry 6)
and `XFER_CAN_FAIL` (log entry 3). No input is given yet. -/
def State.reset : State where
  snap := Vector.replicate 6 0
  connected := false
  csN := .high
  phase := .idle
  cur := ⟨0, []⟩
  xidx := 0
  stage := .entry
  txb := Vector.replicate 16 0
  rxb := Vector.replicate 16 0
  bus := [.reset]
  responses := []
  port := []
  answers := []
  rstIn := []
  rst := false
  xferCanFail := true
  freeCtr := 0

/-- The machine at power-on, before its first reset: as after a reset, but that the bus history is empty
(R39, N18). -/
def State.powerOn : State := { State.reset with bus := [] }

end Sys2Proof.Machine
end

