-- ==== Sys2Proof/Machine/Operands.lean ====
section
/-! DEFINITION. The operand forms: bytes and byte lists through the reversal ROM, response bytes by
position, buttons and axes through their tables. -/

namespace Sys2Proof.Machine

/-- `reverse_bits(v)` (R73): one read of the reversal ROM. -/
def reverseBits (v : Byte) : Byte := revTab v

/-- `reverse_buffer(L)` (R74): `reverse_bits` of each element, order and length kept. -/
def reverseBuffer (l : List Byte) : List Byte := l.map reverseBits

/-- `R[k]`, byte `k` of a logical response frame. Every frame POLL reads has 9 bytes (R6), so the default
is never met in a run (log entry 18). -/
def frameByte (r : List Byte) (k : Nat) : Byte := r.getD k 0

/-- The payload of a poll's response frame, bytes 3..8, as the six snapshot registers (R14, R90). -/
def extractPayload (r : List Byte) : Vector Byte 6 := Vector.ofFn fun k => frameByte r (3 + k.val)

/-- The bit of a button in the snapshot is clear: the button is pressed, by inverted logic (R15, R95). -/
def isPressed (b : Button) (snap : Vector Byte 6) : Bool :=
  snap.get (btnTab b).index &&& (btnTab b).mask == 0

/-- `zext_16(p)`, `p` 1 where the button is pressed and 0 where it is not (R95, R69). -/
def pressedWord (b : Button) (snap : Vector Byte 6) : Word := if isPressed b snap then 1 else 0

/-- The pressed mask of all 16 buttons: the complement of `(SNAP[1] << 8) | SNAP[0]` (R96, R45). -/
def pressedMask (snap : Vector Byte 6) : Word :=
  ~~~(((snap.get 1).zeroExtend 16 <<< 8) ||| (snap.get 0).zeroExtend 16)

/-- The reading of an axis minus 128, exact in the integers (R97, R98). -/
def stickValue (a : Axis) (snap : Vector Byte 6) : Int := ((snap.get (axTab a)).toNat : Int) - 128

/-- `sext_16(s)`, `s` the 8-bit two's complement encoding of the stick value (R97, R69). -/
def stickWord (a : Axis) (snap : Vector Byte 6) : Word :=
  (BitVec.ofInt 8 (stickValue a snap)).signExtend 16

end Sys2Proof.Machine
end

