-- ==== Sys2Proof/Machine/Flags.lean ====
section
/-! DEFINITION. The one flag, `CONNECTED`: the check that sets it and the gate the queries read it by. -/

namespace Sys2Proof.Machine

/-- The validity check of a response frame: logical byte 2, and no other, is exactly 0x5A (R89). -/
def markerValid (r : List Byte) : Bool := frameByte r 2 == 0x5A

/-- A query's result (R20, R99): the live value while `CONNECTED` is 1, the neutral value 0 while it is 0. -/
def whenConnected (s : State) (live : Word) : Word := if s.connected then live else 0

/-- A valid poll's update of the block's state, one indivisible step (R49): all six snapshot registers and
`CONNECTED <- 1` (R88, R90). -/
def storeSnapshot (r : List Byte) (s : State) : State :=
  { s with snap := extractPayload r, connected := true }

end Sys2Proof.Machine
end

