-- ==== Sys2Proof/Machine/Ops.lean ====
section
/-! DEFINITION. The shared operations: the primitives of R9 to R11, the exchange procedure of R80, taking
an error outcome, accepting a command and the reset input. -/

namespace Sys2Proof.Machine

/-! ### Free values -/

/-- `n` unspecified bytes, the free values from number `c` on (log entry 6). Irreducible: nothing of their
values is to be computed. -/
@[irreducible] def freeBytes (n c : Nat) : Vector Byte n := Vector.ofFn fun k => Config.freeByte (c + k.val)

/-- Outside an exchange the contents of `TXB` and `RXB` are unspecified (R31, U5): free values. -/
def forgetBuffers (s : State) : State :=
  { s with txb := freeBytes 16 s.freeCtr, rxb := freeBytes 16 (s.freeCtr + 16), freeCtr := s.freeCtr + 32 }

/-! ### Responses -/

/-- The 2-bit code of a status, as the response port carries it (R26, R35). -/
def Status.code : Status → BitVec 2
  | .ok => 0b00
  | .illegal => 0b01
  | .xferErr => 0b10

/-- The status a 2-bit code names (R26); 0b11 is reserved and names none. -/
def Status.ofCode (k : BitVec 2) : Option Status :=
  match k.toNat with
  | 0 => some .ok | 1 => some .illegal | 2 => some .xferErr | _ => none

/-- The field `status` of a response on the response port (R35). -/
def Response.statusCode (r : Response) : BitVec 2 := r.status.code

/-- `respond(status, rdata, rbuf)` (R11): the current command ends, one response is delivered and the block
is idle again (R32). Outside a command `CUR` is unspecified (U5): a free value. -/
def respond (status : Status) (rdata : Word) (rbuf : List Byte) (s : State) : State :=
  { s with
    responses := s.responses ++ [⟨status, rdata, rbuf⟩]
    phase := .idle
    stage := .entry
    cur := Config.freeCommand s.freeCtr
    freeCtr := s.freeCtr + 1 }

/-- Taking the outcome ILLEGAL (R101): `respond(ILLEGAL, 0x0000, [])` and no other effect. -/
def raiseIllegal (s : State) : State := respond .illegal 0 [] s

/-- Taking the outcome XFER_ERR (R84, R102): `respond(XFER_ERR, 0x0000, [])`. Select is deasserted by then
and the exchange's scratch buffers are done with. -/
def raiseXferError (s : State) : State := respond .xferErr 0 [] (forgetBuffers s)

/-! ### The select line and the transfers -/

/-- `SetSelect(a)` (R10): drives `CS_N`, low to assert, and records the event. -/
def setSelect (a : Bool) (s : State) : State :=
  { s with
    csN := if a then .low else .high
    bus := s.bus ++ [if a then .csAssert else .csDeassert] }

/-- The transmit buffer of a frame: `TXB[i] <- REVTAB[C[i]]` for its positions, the other entries as they
were (R80 step 1, R31). -/
def loadTxb (p : List Byte) (b : Vector Byte 16) : Vector Byte 16 :=
  Vector.ofFn fun i => (p[i.val]?.map reverseBits).getD (b.get i)

/-- The first step of an exchange of `p` (R80 steps 1 and 2, R86): the transmit buffer is loaded, select is
asserted and the byte index is 0. -/
def beginExchange (p : List Byte) (s : State) : State :=
  setSelect true { s with txb := loadTxb p s.txb, xidx := 0, stage := .framing }

/-- The byte the next transfer sends, `TXB[XIDX]` (R80 step 3). `XIDX` is at most 15 at every transfer of a
run, so the default is never met there (log entry 18). -/
def outByte (s : State) : Byte := s.txb.toList.getD s.xidx 0

/-- A completed transfer (R9, R80 step 3): the event, the in-byte at the same position, the next index. -/
def recordTransfer (r : Byte) (s : State) : State :=
  { s with bus := s.bus ++ [.xfer (outByte s) r], rxb := s.rxb.setIfInBounds s.xidx r, xidx := s.xidx + 1 }

/-- A failed transfer (R84, R86): its event. No later transfer is tried, and the step to come deasserts select
(log entry 8). -/
def failTransfer (s : State) : State :=
  { s with bus := s.bus ++ [.xferFail (outByte s)], stage := .failing }

/-- One transfer (R9, R36): it takes the Transport's next answer. `FAIL` is an answer only where
`XFER_CAN_FAIL` is true (R7). Where no answer is there, the block waits while its environment still has an
input to give, and is stuck where it has none (R126, U6; log entry 2). -/
def transfer (s : State) : Host.Outcome State Fault Refusal :=
  match s.answers with
  | .byte r :: rest => .next (recordTransfer r { s with answers := rest })
  | .fail :: rest =>
    if s.xferCanFail then .next (failTransfer { s with answers := rest }) else .refused .failExcluded
  | [] => if s.rstIn.isEmpty then .fault .transportSilent else .next s

/-- The last step of a completed exchange (R80 step 4): select is deasserted. -/
def endExchange (s : State) : State := setSelect false { s with stage := .done }

/-- The step after a failed transfer (R84, R86): select is deasserted at once. -/
def abortExchange (s : State) : State := setSelect false { s with stage := .failed }

/-- The logical received frame of `n` bytes (R80 step 5): `REVTAB[RXB[i]]`, in order. -/
def receivedFrame (n : Nat) (s : State) : List Byte := reverseBuffer (s.rxb.toList.take n)

/-- One step of a command that exchanges the frame `p` (R80, R86), by its position; `finish` is the
command's own last step, on the logical received frame. The exchange's buffers are done with by then
(R31). -/
def exchangeStep (p : List Byte) (finish : List Byte → State → State) (s : State) :
    Host.Outcome State Fault Refusal :=
  match s.stage with
  | .entry => .next (beginExchange p s)
  | .framing => if s.xidx < p.length then transfer s else .next (endExchange s)
  | .failing => .next (abortExchange s)
  | .done => .next (finish (receivedFrame p.length s) (forgetBuffers s))
  | .failed => .next (raiseXferError s)

/-! ### The command port -/

/-- The step of an idle block (R34, R115): it accepts the next command presented, `PHASE <- BUSY` and
`CUR <- command` (R32), or holds all its state where none is (log entry 11). -/
def acceptNext (s : State) : State :=
  match s.port with
  | c :: rest => { s with port := rest, phase := .busy, cur := c, stage := .entry }
  | [] => s

/-! ### The reset input -/

/-- The events a reset appends (R39, R116): `CsDeassert` where select is asserted, then `Reset`. -/
def resetEvents : Level → List Event
  | .low => [.csDeassert, .reset]
  | .high => [.reset]

/-- The effect of asserting RST (R116). What R116 leaves unspecified takes free values. A command in
progress is aborted: it delivers no response and does nothing more (R117). -/
def applyReset (s : State) : State :=
  { s with
    csN := .high
    bus := s.bus ++ resetEvents s.csN
    connected := false
    phase := .idle
    stage := .entry
    xidx := 0
    snap := freeBytes 6 s.freeCtr
    txb := freeBytes 16 (s.freeCtr + 6)
    rxb := freeBytes 16 (s.freeCtr + 22)
    cur := Config.freeCommand (s.freeCtr + 38)
    freeCtr := s.freeCtr + 39 }

/-- RST's level at the coming step: the next of the levels to come, not asserted where none is (log
entry 9). -/
def rstNow (s : State) : Bool := s.rstIn.headD false

/-- The start of every step: RST's level is sampled (log entry 9). Where it becomes asserted the block is
reset (R116); where it stays asserted nothing happens. -/
def sampleRst (s : State) : State :=
  let sampled := { s with rstIn := s.rstIn.tail, rst := rstNow s }
  if rstNow s && !s.rst then applyReset sampled else sampled

end Sys2Proof.Machine
end

