-- ==== Sys2Proof/Machine/Codec.lean ====
section
/-! DEFINITION. The bit-reversal lookup engine's commands: REVB and REVBUF (`40_bit_reversal.md`). -/

namespace Sys2Proof.Machine

/-- `REVB` (R78): `rdata = zext_16(REVTAB[v])`. -/
def execRevb (v : Byte) (s : State) : Host.Outcome State Fault Refusal :=
  .next (respond .ok ((reverseBits v).zeroExtend 16) [] s)

/-- `REVBUF` (R79): `rbuf` holds the reversed payload, in order. -/
def execRevbuf (p : List Byte) (s : State) : Host.Outcome State Fault Refusal :=
  .next (respond .ok 0 (reverseBuffer p) s)

end Sys2Proof.Machine
end

