-- ==== Sys2Proof/Machine/StateDecoder.lean ====
section
/-! DEFINITION. The fixed-frame validator, snapshot extractor and queries: POLL, BTN, BTNS, STICK and the
pseudo-instruction `BTN Buttons` (`42_state_decoder.md`). -/

namespace Sys2Proof.Machine

/-- POLL's own last step (R88): a valid marker stores the snapshot and answers 1; any other leaves `SNAP`
and `CONNECTED` as they are and answers 0 (R91), with status `OK` either way. -/
def finishPoll (r : List Byte) (s : State) : State :=
  if markerValid r then respond .ok 1 [] (storeSnapshot r s) else respond .ok 0 [] s

/-- `POLL` (R88): one step of the exchange of `PFRAME`; at the end, validation and extraction. -/
def execPoll (s : State) : Host.Outcome State Fault Refusal := exchangeStep pollFrame finishPoll s

/-- `BTN` (R95): 1 where the named button is pressed. -/
def execBtn (b : Button) (s : State) : Host.Outcome State Fault Refusal :=
  .next (respond .ok (whenConnected s (pressedWord b s.snap)) [] s)

/-- `BTNS` (R96): the pressed mask of all 16 buttons. -/
def execBtns (s : State) : Host.Outcome State Fault Refusal :=
  .next (respond .ok (whenConnected s (pressedMask s.snap)) [] s)

/-- `STICK` (R97): the named axis's reading, recentred around zero. -/
def execStick (a : Axis) (s : State) : Host.Outcome State Fault Refusal :=
  .next (respond .ok (whenConnected s (stickWord a s.snap)) [] s)

/-- `BTN Buttons` (R71): the assembler's other spelling of `BTNS`, with the effect of R96. -/
def execBtnButtons (s : State) : Host.Outcome State Fault Refusal :=
  .next (respond .ok (whenConnected s (pressedMask s.snap)) [] s)

end Sys2Proof.Machine
end

