-- ==== Sys2Proof/Machine/Transceiver.lean ====
section
/-! DEFINITION. The synchronous serial frame transceiver's command: XCHG (`41_frame_transceiver.md`). -/

namespace Sys2Proof.Machine

/-- `XCHG` (R87): one step of the exchange of the host's frame; at the end, what came back. -/
def execXchg (p : List Byte) (s : State) : Host.Outcome State Fault Refusal :=
  exchangeStep p (respond .ok 0) s

end Sys2Proof.Machine
end

