-- ==== Sys2Proof/Machine/Dispatch.lean ====
section
/-! DEFINITION. One arm for each instruction of the opcode table. -/

namespace Sys2Proof.Machine

def exec (i : Instr) (s : State) : Host.Outcome State Fault Refusal :=
  match i with
  | .revb v => Sys2Proof.Machine.execRevb v s
  | .revbuf p => Sys2Proof.Machine.execRevbuf p s
  | .xchg p => Sys2Proof.Machine.execXchg p s
  | .poll => Sys2Proof.Machine.execPoll s
  | .btn b => Sys2Proof.Machine.execBtn b s
  | .btns => Sys2Proof.Machine.execBtns s
  | .stick a => Sys2Proof.Machine.execStick a s
  | .btnButtons => Sys2Proof.Machine.execBtnButtons s

end Sys2Proof.Machine
end

