-- ==== Sys2Proof/Machine/Step.lean ====
section
/-! DEFINITION. One step of the block, and where a test's instruction is placed. -/

namespace Sys2Proof.Machine

/-- One step (R86, R105, R118). RST's level is sampled first; while it is asserted the block does nothing
more. Otherwise an idle block accepts the next command, and a busy one takes one step of the command `CUR`
holds, or answers ILLEGAL where that does not decode (R101). -/
def step (s : State) : Host.Outcome State Fault Refusal :=
  let t := sampleRst s
  if t.rst then .next t
  else
    match t.phase with
    | .idle => .next (acceptNext t)
    | .busy =>
      match decode t.cur with
      | .command i => exec i t
      | .illegal _ => .next (raiseIllegal t)

/-- `s` with the command whose bits are `w` just accepted: `PHASE` is BUSY, `CUR` holds it, none of its steps
is taken yet and no reset is to come, so that the very next step runs it (log entry 1). -/
def State.withFetchWord (s : State) (nbits w : Nat) : State :=
  { s with phase := .busy, cur := commandOfBits nbits w, stage := .entry, rstIn := [] }

end Sys2Proof.Machine
end

