-- ==== Sys2Proof/Machine/Asm.lean ====
section
/-! DEFINITION. The assembler syntax of `30_encoding.md` §7 (R70, R71): one command per line, a mnemonic and
then operands separated by commas. Blanks around a token are ignored (DESIGN CHOICE, log entry 16). -/

namespace Sys2Proof.Machine

/-- The button names of the source, matched case-sensitively (R70). -/
def buttonNames : List (String × Button) := [
  ("Select", .select), ("L3", .l3), ("R3", .r3), ("Start", .start), ("Up", .up), ("Right", .right),
  ("Down", .down), ("Left", .left), ("L2", .l2), ("R2", .r2), ("L1", .l1), ("R1", .r1),
  ("Triangle", .triangle), ("Circle", .circle), ("Cross", .cross), ("Square", .square)]

/-- The axis names of the source, matched case-sensitively (R70). -/
def axisNames : List (String × Axis) := [
  ("LeftX", .leftX), ("LeftY", .leftY), ("RightX", .rightX), ("RightY", .rightY)]

/-- The entry of a table of names that a token spells. -/
def lookupName {α : Type} (token : List Char) : List (String × α) → Option α
  | [] => none
  | (name, a) :: rest => if name.toList = token then some a else lookupName token rest

/-- A blank between tokens. -/
def isBlank (ch : Char) : Bool := ch == ' ' || ch == '\t'

/-- A text without the blanks at its ends. -/
def trimBlanks (l : List Char) : List Char :=
  ((l.dropWhile isBlank).reverse.dropWhile isBlank).reverse

/-- A text cut at its commas. -/
def cutCommas : List Char → List (List Char)
  | [] => [[]]
  | ch :: rest =>
    if ch == ',' then [] :: cutCommas rest
    else match cutCommas rest with
      | [] => [[ch]]
      | first :: others => (ch :: first) :: others

/-- The value of a digit, hexadecimal digits in either case. -/
def digitValue (ch : Char) : Option Nat :=
  if '0' ≤ ch ∧ ch ≤ '9' then some (ch.toNat - '0'.toNat)
  else if 'a' ≤ ch ∧ ch ≤ 'f' then some (ch.toNat - 'a'.toNat + 10)
  else if 'A' ≤ ch ∧ ch ≤ 'F' then some (ch.toNat - 'A'.toNat + 10)
  else none

/-- The number a nonempty list of digits of a base spells, `acc` the value of the digits before. -/
def digitsValue (base acc : Nat) : List Char → Option Nat
  | [] => some acc
  | ch :: rest =>
    match digitValue ch with
    | some d => if d < base then digitsValue base (base * acc + d) rest else none
    | none => none

/-- A number, hexadecimal with `0x` or decimal (R70). -/
def numberValue : List Char → Option Nat
  | [] => none
  | '0' :: 'x' :: [] => none
  | '0' :: 'x' :: ch :: rest => digitsValue 16 0 (ch :: rest)
  | ch :: rest => digitsValue 10 0 (ch :: rest)

/-- A byte operand, 0..255 (R70). -/
def byteOperand (token : List Char) : Option Byte :=
  match numberValue token with
  | some n => if n ≤ 255 then some (BitVec.ofNat 8 n) else none
  | none => none

/-- A list of byte operands, none where one of them is no byte. -/
def byteOperands : List (List Char) → Option (List Byte)
  | [] => some []
  | token :: rest =>
    match byteOperand token, byteOperands rest with
    | some b, some l => some (b :: l)
    | _, _ => none

/-- A frame of 1..16 bytes (R70, R62). -/
def frameOperands (tokens : List (List Char)) : Option (List Byte) :=
  match byteOperands tokens with
  | some p => if frameFits p then some p else none
  | none => none

/-- The operand of BTN: one of the 16 names, or the pseudo-button `Buttons` (R70, R71). -/
def buttonOperand (token : List Char) : Option Instr :=
  if token = "Buttons".toList then some .btnButtons else (lookupName token buttonNames).map .btn

/-- The instruction a mnemonic and its operands name (R70). -/
def parseForm (mnemonic : List Char) (operands : List (List Char)) : Option Instr :=
  if mnemonic = "REVB".toList then
    match operands with
    | [token] => (byteOperand token).map .revb
    | _ => none
  else if mnemonic = "REVBUF".toList then (frameOperands operands).map .revbuf
  else if mnemonic = "XCHG".toList then (frameOperands operands).map .xchg
  else if mnemonic = "POLL".toList then (if operands = [] then some .poll else none)
  else if mnemonic = "BTN".toList then
    match operands with
    | [token] => buttonOperand token
    | _ => none
  else if mnemonic = "BTNS".toList then (if operands = [] then some .btns else none)
  else if mnemonic = "STICK".toList then
    match operands with
    | [token] => (lookupName token axisNames).map .stick
    | _ => none
  else none

/-- The instruction a line spells. -/
def parseLine (line : List Char) : Option Instr :=
  let text := trimBlanks line
  let mnemonic := text.takeWhile fun ch => !isBlank ch
  let rest := trimBlanks (text.drop mnemonic.length)
  parseForm mnemonic (if rest.isEmpty then [] else (cutCommas rest).map trimBlanks)

/-- The command a line assembles to (R70): the fields of its instruction, every other field 0. -/
def assemble (line : String) : Option Command := (parseLine line.toList).map encode

end Sys2Proof.Machine
end

