-- ==== Sys2Proof/Safety.lean ====
section
/-! DEFINITION. The terms claims use: the select frames of a bus history, the machine's invariant, what a
response command leaves as it was, the last valid poll, and what an observer cannot tell apart. -/

namespace Sys2Proof.Machine

/-- `n` steps of the block, stopping at the first fault or refusal: the host's own run of the model. -/
def runSteps (n : Nat) (s : State) : Host.Outcome State Fault Refusal := Host.Core.run Sys2Proof.core n s

/-! ### Select frames of the bus history -/

/-- Where a bus history stands with respect to select frames (R56, R83). -/
inductive Frame where
  /-- No select frame is open. -/
  | closed
  /-- A select frame is open and holds this many completed transfers. -/
  | opened (n : Nat)
  /-- A select frame is open, and after this many completed transfers its last event is a failed one. -/
  | broken (n : Nat)
deriving DecidableEq, Repr

/-- Where the history stands after one more event, none where no history of the block holds that event
there: select events alternate, transfers lie inside frames, nothing follows a failed transfer but the
deassertion, and a reset finds select deasserted (R39, R83, R84, R116). -/
def Frame.after : Frame → Event → Option Frame
  | .closed, .csAssert => some (.opened 0)
  | .closed, .reset => some .closed
  | .opened n, .xfer _ _ => some (.opened (n + 1))
  | .opened n, .xferFail _ => some (.broken n)
  | .opened _, .csDeassert => some .closed
  | .broken _, .csDeassert => some .closed
  | _, _ => none

/-- Where a whole history stands, from power-on. -/
def busFrame (history : List Event) : Option Frame :=
  history.foldl (fun f e => f.bind fun g => g.after e) (some .closed)

/-- The transfer events of sending the logical bytes `p` and getting the wire bytes `rs` (R80, R82). -/
def transferEvents (p rs : List Byte) : List Event := List.zipWith (fun v r => .xfer (rev8 v) r) p rs

/-! ### The invariant -/

/-- The frame an instruction exchanges over the bus, none for an instruction that exchanges none (R50). -/
def exchangeFrame : Instr → Option (List Byte)
  | .revb _ => none
  | .revbuf _ => none
  | .xchg p => some p
  | .poll => some pollFrame
  | .btn _ => none
  | .btns => none
  | .stick _ => none
  | .btnButtons => none

/-- The frame a command word and payload exchange, none where they exchange none. -/
def commandFrame (cmd : Command) : Option (List Byte) :=
  match decode cmd with
  | .command i => exchangeFrame i
  | .illegal _ => none

/-- The events of the exchange of `p` so far: the assertion of select, and the first `XIDX` transfers, each
with the wire byte of the frame's byte and the in-byte that `RXB` holds (R80, R82). -/
def exchangeSoFar (p : List Byte) (s : State) : List Event :=
  .csAssert :: transferEvents (p.take s.xidx) (s.rxb.toList.take s.xidx)

/-- The invariant of the block: its hidden position, its select output, its buffers and its bus history
agree. -/
structure Inv (s : State) : Prop where
  /-- The history is made of whole select frames, and of one open frame of `XIDX` completed transfers while an
  exchange is under way, a failed transfer its last event where one failed (R39, R83, R84). -/
  framed : busFrame s.bus = some (match s.stage with
    | .entry => .closed
    | .framing => .opened s.xidx
    | .failing => .broken s.xidx
    | .done => .closed
    | .failed => .closed)
  /-- Select is asserted only inside an exchange (R25): while its transfers are under way, and after a failed one
  until the step that deasserts it. -/
  selected : s.csN = .low ↔ s.stage = .framing ∨ s.stage = .failing
  /-- An idle block is inside no exchange (R25, R32). -/
  idle : s.phase = .idle → s.stage = .entry
  /-- While RST is asserted no command runs (R116, R118). -/
  held : s.rst = true → s.phase = .idle
  /-- `XIDX` is 0..16 (R32). -/
  index : s.xidx ≤ 16
  /-- Inside an exchange `CUR` is a command that exchanges a frame of `N` bytes, and the history ends with its
  events so far (R18, R80). While select is asserted the transmit buffer holds the frame's wire bytes; the index
  is at most `N`; a completed exchange made `N` transfers; a failed one failed at a position before `N`, with a
  Transport that can fail (R7, R81, R84). -/
  exchange : s.stage ≠ .entry → ∃ p, commandFrame s.cur = some p ∧
    (s.stage = .framing → s.xidx ≤ p.length ∧ s.txb.toList.take p.length = p.map rev8 ∧
      exchangeSoFar p s <:+ s.bus) ∧
    (s.stage = .failing → s.xidx < p.length ∧ s.txb.toList.take p.length = p.map rev8 ∧ s.xferCanFail = true ∧
      exchangeSoFar p s ++ [.xferFail (rev8 (p.getD s.xidx 0))] <:+ s.bus) ∧
    (s.stage = .done → s.xidx = p.length ∧ exchangeSoFar p s ++ [.csDeassert] <:+ s.bus) ∧
    (s.stage = .failed → s.xidx < p.length ∧ s.xferCanFail = true ∧
      exchangeSoFar p s ++ [.xferFail (rev8 (p.getD s.xidx 0)), .csDeassert] <:+ s.bus)

/-! ### Frames of effects -/

/-- From `s` to `t` a command ended with the response `r` and wrote nothing else: one response is delivered,
the block is idle (R11), and every register, flag, line, buffer, input and the bus history are unchanged.
Only `CUR`, unspecified outside a command (R32), and the model's own count of free values are left open. -/
structure RespondsOnly (s t : State) (r : Response) : Prop where
  responses : t.responses = s.responses ++ [r]
  phase : t.phase = .idle
  stage : t.stage = .entry
  snap : t.snap = s.snap
  connected : t.connected = s.connected
  csN : t.csN = s.csN
  xidx : t.xidx = s.xidx
  txb : t.txb = s.txb
  rxb : t.rxb = s.rxb
  bus : t.bus = s.bus
  port : t.port = s.port
  answers : t.answers = s.answers
  rstIn : t.rstIn = s.rstIn
  rst : t.rst = s.rst
  xferCanFail : t.xferCanFail = s.xferCanFail

/-- From `s` to `t` an exchange command ended with the response `r`: as `RespondsOnly`, but that `SNAP` and
`CONNECTED` are left for the statement to say, and `TXB` and `RXB` are unspecified outside an exchange
(R31). -/
structure EndsExchange (s t : State) (r : Response) : Prop where
  responses : t.responses = s.responses ++ [r]
  phase : t.phase = .idle
  stage : t.stage = .entry
  csN : t.csN = s.csN
  xidx : t.xidx = s.xidx
  bus : t.bus = s.bus
  port : t.port = s.port
  answers : t.answers = s.answers
  rstIn : t.rstIn = s.rstIn
  rst : t.rst = s.rst
  xferCanFail : t.xferCanFail = s.xferCanFail

/-- From `s` to `t` a command went one step on and has not ended: no response, and nothing of what an
exchange leaves alone is changed, `SNAP` and `CONNECTED` among it (R85). The exchange's own scratch state,
`CS_N`, the bus history and the Transport's answers are left for the statement to say. -/
structure Continues (s t : State) : Prop where
  responses : t.responses = s.responses
  phase : t.phase = s.phase
  cur : t.cur = s.cur
  snap : t.snap = s.snap
  connected : t.connected = s.connected
  port : t.port = s.port
  rstIn : t.rstIn = s.rstIn
  rst : t.rst = s.rst
  xferCanFail : t.xferCanFail = s.xferCanFail
  freeCtr : t.freeCtr = s.freeCtr

/-! ### Encodings -/

/-- Every command of opcode `op` that is not of the form `ok` is ILLEGAL (R67). -/
def IllegalUnless (op : Nat) (ok : Word → List Byte → Prop) : Prop :=
  ∀ (w : Word) (p : List Byte), w.toNat / 4096 = op → ¬ok w p → ∃ why, decode ⟨w, p⟩ = .illegal why

/-! ### The last valid poll -/

/-- The in-bytes of the history's transfers, oldest first (R39). -/
def inBytes (history : List Event) : List Byte :=
  history.filterMap fun e => match e with
    | .xfer _ i => some i
    | .csAssert => none
    | .csDeassert => none
    | .xferFail _ => none
    | .reset => none

/-- The logical bytes of the history's last `n` completed transfers (R82). -/
def lastReceived (n : Nat) (history : List Event) : List Byte :=
  ((inBytes history).drop ((inBytes history).length - n)).map rev8

/-- The step to come is the last step of a POLL whose nine transfers all completed (R88). -/
abbrev pollEnds (s : State) : Prop :=
  rstNow s = false ∧ s.phase = .busy ∧ decode s.cur = .command .poll ∧ s.stage = .done

/-- An onlooker's record of the last POLL with a valid marker since the last reset, by the logical bytes it
received: how the step from `s` changes it. It is kept from the commands, the reset input and the bus history
alone, and reads neither `SNAP`, `CONNECTED` nor `RXB`. -/
def lastPollAfter (last : Option (List Byte)) (s : State) : Option (List Byte) :=
  if rstNow s = true ∧ s.rst = false then none
  else if pollEnds s ∧ (lastReceived 9 s.bus).getD 2 0 = 0x5A then some (lastReceived 9 s.bus)
  else last

/-- The snapshot and the flag are those of the last valid POLL since the last reset (V4 of
`95_test_vectors.md`): `CONNECTED` is 1 exactly where there was one, `SNAP` holds its bytes 3..8, and its
exchange of the poll frame stands in the bus history with no `Reset` after it. -/
structure HoldsLastPoll (last : Option (List Byte)) (s : State) : Prop where
  connected : s.connected = last.isSome
  snap : ∀ r, last = some r → s.snap.toList = r.drop 3
  valid : ∀ r, last = some r → r.length = 9 ∧ r.getD 2 0 = 0x5A
  exchanged : ∀ r, last = some r → ∃ pre post,
    s.bus = pre ++ (.csAssert :: transferEvents pollFrame (r.map rev8) ++ [.csDeassert]) ++ post ∧
    Event.reset ∉ post

/-! ### What an observer cannot tell apart -/

/-- The length of the frame `CUR` exchanges, 0 where it exchanges none. -/
def currentLength (s : State) : Nat := ((commandFrame s.cur).map List.length).getD 0

/-- Two states that differ only in contents the spec calls unspecified and unobservable: the snapshot while
`CONNECTED` is 0 (R17), `CUR` while the block is idle, and the entries of `TXB` and `RXB` that no exchange
under way has written (R31, D30). -/
structure Indistinguishable (s t : State) : Prop where
  connected : s.connected = t.connected
  csN : s.csN = t.csN
  phase : s.phase = t.phase
  stage : s.stage = t.stage
  xidx : s.xidx = t.xidx
  bus : s.bus = t.bus
  responses : s.responses = t.responses
  port : s.port = t.port
  answers : s.answers = t.answers
  rstIn : s.rstIn = t.rstIn
  rst : s.rst = t.rst
  xferCanFail : s.xferCanFail = t.xferCanFail
  snap : s.connected = true → s.snap = t.snap
  cur : s.phase = .busy → s.cur = t.cur
  txb : s.phase = .busy → s.stage = .framing →
    s.txb.toList.take (currentLength s) = t.txb.toList.take (currentLength s)
  rxb : s.phase = .busy → s.stage = .framing → s.rxb.toList.take s.xidx = t.rxb.toList.take s.xidx
  received : s.phase = .busy → s.stage = .done →
    s.rxb.toList.take (currentLength s) = t.rxb.toList.take (currentLength s)

/-- Two outcomes an observer cannot tell apart. -/
def SameOutcome : Host.Outcome State Fault Refusal → Host.Outcome State Fault Refusal → Prop
  | .next s, .next t => Indistinguishable s t
  | .fault f, .fault g => f = g
  | .refused f, .refused g => f = g
  | .next _, .fault _ => False
  | .next _, .refused _ => False
  | .fault _, .next _ => False
  | .fault _, .refused _ => False
  | .refused _, .next _ => False
  | .refused _, .fault _ => False

end Sys2Proof.Machine
end

