-- ==== Sys2Proof/Certificates/Slice0/Obligations.lean ====
section
/-! DEFINITION. The statements for the provers. -/

open Sys2Proof Sys2Proof.Machine

/-! ### Encoding -/

/-- Words written out from the opcode map of R65 and the vectors of `95_test_vectors.md` §3 decode to the
commands, or the rejections, they stand for. The spec says of a rejection only that it is ILLEGAL; the names of the
causes are the model's choice (log entry 19). -/
def Obligations.SpecWordsDecode : Prop :=
  decode ⟨0x1001, []⟩ = .command (.revb 0x01) ∧
  decode ⟨0x2200, [0x01, 0x42, 0x0F]⟩ = .command (.revbuf [0x01, 0x42, 0x0F]) ∧
  decode ⟨0x3100, [0x01, 0x42]⟩ = .command (.xchg [0x01, 0x42]) ∧
  decode ⟨0x4000, []⟩ = .command .poll ∧
  decode ⟨0x5E00, []⟩ = .command (.btn .cross) ∧
  decode ⟨0x6000, []⟩ = .command .btns ∧
  decode ⟨0x7300, []⟩ = .command (.stick .rightY) ∧
  decode ⟨0x0000, []⟩ = .illegal .reservedOpcode ∧
  decode ⟨0x1100, []⟩ = .illegal .nonzeroSel ∧
  decode ⟨0x3001, [0x01]⟩ = .illegal .nonzeroImm ∧
  decode ⟨0x3100, [0x01, 0x02, 0x03]⟩ = .illegal .payloadLength ∧
  decode ⟨0x7400, []⟩ = .illegal .nonzeroSel

/-- The decoder is the one R66 writes: total, one condition after the other, over the three fields of the
word as numbers, ILLEGAL where none holds. -/
def Obligations.DecodeFollowsItsConditions : Prop :=
  ∀ (w : Word) (p : List Byte),
    let op := w.toNat / 4096
    let sel := w.toNat / 256 % 16
    let imm := w.toNat % 256
    if op = 1 ∧ sel = 0 ∧ p.length = 0 then decode ⟨w, p⟩ = .command (.revb (BitVec.ofNat 8 imm))
    else if op = 2 ∧ imm = 0 ∧ p.length = sel + 1 then decode ⟨w, p⟩ = .command (.revbuf p)
    else if op = 3 ∧ imm = 0 ∧ p.length = sel + 1 then decode ⟨w, p⟩ = .command (.xchg p)
    else if op = 4 ∧ sel = 0 ∧ imm = 0 ∧ p.length = 0 then decode ⟨w, p⟩ = .command .poll
    else if op = 5 ∧ imm = 0 ∧ p.length = 0 then
      ∃ b : Button, decode ⟨w, p⟩ = .command (.btn b) ∧ b.code.toNat = sel
    else if op = 6 ∧ sel = 0 ∧ imm = 0 ∧ p.length = 0 then decode ⟨w, p⟩ = .command .btns
    else if op = 7 ∧ sel / 4 = 0 ∧ imm = 0 ∧ p.length = 0 then
      ∃ a : Axis, decode ⟨w, p⟩ = .command (.stick a) ∧ a.code.toNat = sel % 4
    else ∃ why, decode ⟨w, p⟩ = .illegal why

/-- The match and mask table of R65: a command decodes to a mnemonic exactly when its word masked is the
match and its payload has the length of R60. -/
def Obligations.MatchAndMaskSelectTheCommand : Prop :=
  ∀ (w : Word) (p : List Byte),
    ((∃ v, decode ⟨w, p⟩ = .command (.revb v)) ↔ w &&& 0xFF00 = 0x1000 ∧ p = []) ∧
    (decode ⟨w, p⟩ = .command (.revbuf p) ↔ w &&& 0xF0FF = 0x2000 ∧ p.length = w.toNat / 256 % 16 + 1) ∧
    (decode ⟨w, p⟩ = .command (.xchg p) ↔ w &&& 0xF0FF = 0x3000 ∧ p.length = w.toNat / 256 % 16 + 1) ∧
    (decode ⟨w, p⟩ = .command .poll ↔ w &&& 0xFFFF = 0x4000 ∧ p = []) ∧
    ((∃ b, decode ⟨w, p⟩ = .command (.btn b)) ↔ w &&& 0xF0FF = 0x5000 ∧ p = []) ∧
    (decode ⟨w, p⟩ = .command .btns ↔ w &&& 0xFFFF = 0x6000 ∧ p = []) ∧
    ((∃ a, decode ⟨w, p⟩ = .command (.stick a)) ↔ w &&& 0xFCFF = 0x7000 ∧ p = [])

/-- Decoding the encoding of any well-formed instruction gives it back, the pseudo-instruction as the core
command whose word it shares (R71). -/
def Obligations.DecodeOfEncode : Prop :=
  ∀ i : Instr, i.wf = true → decode (encode i) = .command i.coreForm

/-- Encoding what a command decodes to gives the command back, bit for bit and byte for byte: no word and
payload has a second meaning, and no bit of one is dropped. What decoding yields is well-formed and never the
pseudo-instruction. -/
def Obligations.EncodeOfDecode : Prop :=
  ∀ (cmd : Command) (i : Instr), decode cmd = .command i →
    encode i = cmd ∧ i.wf = true ∧ i.coreForm = i

/-- The payload length is fixed by the word (R68): a command that decodes has it. -/
def Obligations.PayloadLengthFixedByWord : Prop :=
  ∀ (w : Word) (p : List Byte) (i : Instr), decode ⟨w, p⟩ = .command i →
    p.length = if w.toNat / 4096 = 2 ∨ w.toNat / 4096 = 3 then w.toNat / 256 % 16 + 1 else 0

/-- Every reserved encoding of R67 is ILLEGAL, and a block that holds one answers with the one response and
no other effect, on the state RST's sampling leaves (R101). That a step samples one level of RST is the model's
reading (log entry 9). -/
def Obligations.ReservedEncodingsOnlyRespond : Prop :=
  ∀ (w : Word) (p : List Byte),
    let op := w.toNat / 4096
    let sel := w.toNat / 256 % 16
    let imm := w.toNat % 256
    (op = 0 ∨ 8 ≤ op ∨ ((op = 1 ∨ op = 4 ∨ op = 6) ∧ sel ≠ 0) ∨ (op = 7 ∧ sel / 4 ≠ 0) ∨
      (2 ≤ op ∧ imm ≠ 0) ∨ ((op = 2 ∨ op = 3) ∧ p.length ≠ sel + 1) ∨
      ((op = 1 ∨ 4 ≤ op) ∧ p.length ≠ 0)) →
    (∃ why, decode ⟨w, p⟩ = .illegal why) ∧
    ∀ s : State, s.phase = .busy → s.cur = ⟨w, p⟩ → rstNow s = false →
      ∃ t, step s = .next t ∧
        RespondsOnly { s with rstIn := s.rstIn.tail, rst := false } t ⟨.illegal, 0, []⟩

/-- The assembler's forms (R70, R71) on one line each: hexadecimal and decimal bytes, a frame, names, the
pseudo-instruction with the word of BTNS, and forms it refuses. That blanks after a comma may stand or be left out,
and the case of hexadecimal digits, are the model's choice (log entry 16). -/
def Obligations.AssemblerForms : Prop :=
  assemble "REVB 0x0F" = some ⟨0x100F, []⟩ ∧
  assemble "REVB 255" = some ⟨0x10FF, []⟩ ∧
  assemble "REVBUF 0x12, 0xA5, 0xC0" = some ⟨0x2200, [0x12, 0xA5, 0xC0]⟩ ∧
  assemble "XCHG 1,66" = some ⟨0x3100, [0x01, 0x42]⟩ ∧
  assemble "POLL" = some ⟨0x4000, []⟩ ∧
  assemble "BTN Square" = some ⟨0x5F00, []⟩ ∧
  assemble "BTNS" = some ⟨0x6000, []⟩ ∧
  assemble "BTN Buttons" = assemble "BTNS" ∧
  assemble "STICK RightX" = some ⟨0x7200, []⟩ ∧
  assemble "REVB 256" = none ∧
  assemble "BTN square" = none ∧
  assemble "XCHG" = none

/-! ### The bit-reversal lookup engine -/

/-- Every entry of `REVTAB` is `rev8` of its index, and bit `j` of `rev8(v)` is bit `7 - j` of `v` (R27,
R12). -/
def Obligations.RevtabIsBitReversal : Prop :=
  ∀ v : Byte, revTab v = rev8 v ∧ ∀ j : Nat, j < 8 → (rev8 v).getLsbD j = v.getLsbD (7 - j)

/-- `reverse_bits` undoes itself (R76, V7); `reverse_buffer` reverses each element where it stands, keeps
order and length, and undoes itself (R74, R76). -/
def Obligations.ReverseBufferIsAnInvolution : Prop :=
  (∀ v : Byte, reverseBits (reverseBits v) = v) ∧
  ∀ l : List Byte,
    reverseBuffer (reverseBuffer l) = l ∧ (reverseBuffer l).length = l.length ∧
    ∀ i : Nat, (reverseBuffer l)[i]? = (l[i]?).map rev8

/-- The bytes reversal leaves unchanged are exactly the 16 bit-palindromes (R77). -/
def Obligations.PalindromesAreFixed : Prop :=
  ∀ v : Byte, reverseBits v = v ↔
    v ∈ ([0x00, 0x18, 0x24, 0x3C, 0x42, 0x5A, 0x66, 0x7E, 0x81, 0x99, 0xA5, 0xBD, 0xC3, 0xDB, 0xE7, 0xFF] :
      List Byte)

/-- REVB (R78): its encoding, its response, and its frame: nothing but the response is written. -/
def Obligations.RevbReversesItsByte : Prop :=
  (∀ v : Byte, decode ⟨0x1000#16 ||| v.zeroExtend 16, []⟩ = .command (.revb v)) ∧
  IllegalUnless 1 (fun w p => w &&& 0xFF00 = 0x1000 ∧ p = []) ∧
  ∀ (v : Byte) (s : State), ∃ t, exec (.revb v) s = .next t ∧
    RespondsOnly s t ⟨.ok, (rev8 v).zeroExtend 16, []⟩

/-- REVBUF (R79): its encoding, its response, and its frame: nothing but the response is written. -/
def Obligations.RevbufReversesItsPayload : Prop :=
  (∀ p : List Byte, 1 ≤ p.length → p.length ≤ 16 →
    decode ⟨BitVec.ofNat 16 (0x2000 + 0x100 * (p.length - 1)), p⟩ = .command (.revbuf p)) ∧
  IllegalUnless 2 (fun w p => w &&& 0xF0FF = 0x2000 ∧ p.length = w.toNat / 256 % 16 + 1) ∧
  ∀ (p : List Byte) (s : State), ∃ t, exec (.revbuf p) s = .next t ∧
    RespondsOnly s t ⟨.ok, 0, p.map rev8⟩

/-! ### The queries -/

/-- BTN (R95): its encoding, its response, and its frame. With `k` the button's code, the button is pressed
when `CONNECTED` is 1 and bit `k[2:0]` of `SNAP[k[3]]` is clear. -/
def Obligations.BtnAnswersPressed : Prop :=
  (∀ b : Button, decode ⟨BitVec.ofNat 16 (0x5000 + 0x100 * b.code.toNat), []⟩ = .command (.btn b)) ∧
  IllegalUnless 5 (fun w p => w &&& 0xF0FF = 0x5000 ∧ p = []) ∧
  ∀ (b : Button) (s : State), ∃ t, exec (.btn b) s = .next t ∧
    RespondsOnly s t ⟨.ok,
      if s.connected = true ∧
        (s.snap.toList.getD (b.code.toNat / 8) 0).getLsbD (b.code.toNat % 8) = false then 1 else 0, []⟩

/-- BTNS (R96): its encoding, its response, and its frame. When `CONNECTED` is 1, bit `k` of the result is
the complement of bit `k` of `(SNAP[1] << 8) | SNAP[0]`; when it is 0 the result is 0. -/
def Obligations.BtnsAnswersTheMask : Prop :=
  decode ⟨0x6000, []⟩ = .command .btns ∧
  IllegalUnless 6 (fun w p => w = 0x6000 ∧ p = []) ∧
  ∀ s : State, ∃ (t : State) (r : Word), exec .btns s = .next t ∧ RespondsOnly s t ⟨.ok, r, []⟩ ∧
    (s.connected = false → r = 0) ∧
    (s.connected = true →
      r = ~~~(((s.snap.get 1).zeroExtend 16 <<< 8) ||| (s.snap.get 0).zeroExtend 16) ∧
      ∀ k : Nat, k < 16 → r.getLsbD k = !(s.snap.toList.getD (k / 8) 0).getLsbD (k % 8))

/-- Bit `k` of the BTNS result is the BTN `k` result, connected or not (V6, R96). -/
def Obligations.BtnsBitsAreBtnResults : Prop :=
  ∀ (s : State) (b : Button), ∃ (t u : State) (r q : Word),
    exec .btns s = .next t ∧ exec (.btn b) s = .next u ∧
    t.responses = s.responses ++ [⟨.ok, r, []⟩] ∧ u.responses = s.responses ++ [⟨.ok, q, []⟩] ∧
    q = if r.getLsbD b.code.toNat then 1 else 0

/-- The pseudo-instruction has the word of BTNS and its effect (R71): it completes, with the same next
state. -/
def Obligations.BtnButtonsIsBtns : Prop :=
  encode .btnButtons = encode .btns ∧
  ∀ s : State, ∃ t, exec .btnButtons s = .next t ∧ exec .btns s = .next t ∧
    ∃ r : Word, RespondsOnly s t ⟨.ok, r, []⟩ ∧ (s.connected = false → r = 0)

/-- STICK (R97, R98): its encoding, its response, and its frame. When `CONNECTED` is 1 the result read as a
16-bit two's complement number is the axis's reading minus 128, and it is the sign extension of the reading
with its top bit inverted; when it is 0 the result is 0. The readings are `SNAP[4]`, `SNAP[5]`, `SNAP[2]` and
`SNAP[3]` for LeftX, LeftY, RightX and RightY (R30). -/
def Obligations.StickAnswersRecentred : Prop :=
  (∀ a : Axis, decode ⟨BitVec.ofNat 16 (0x7000 + 0x100 * a.code.toNat), []⟩ = .command (.stick a)) ∧
  IllegalUnless 7 (fun w p => w &&& 0xFCFF = 0x7000 ∧ p = []) ∧
  ∀ (a : Axis) (s : State), ∃ (t : State) (r : Word),
    exec (.stick a) s = .next t ∧ RespondsOnly s t ⟨.ok, r, []⟩ ∧
    (s.connected = false → r = 0) ∧
    (s.connected = true →
      let x : Byte := match a with
        | .leftX => s.snap.get 4
        | .leftY => s.snap.get 5
        | .rightX => s.snap.get 2
        | .rightY => s.snap.get 3
      r.toInt = (x.toNat : Int) - 128 ∧ r = (x ^^^ 0x80).signExtend 16)

/-- While `CONNECTED` is 0 every query completes with the value 0 and reads no snapshot register: from any
other contents of the snapshot it takes the same step (R99, R20). -/
def Obligations.QueriesAreNeutralWhileDisconnected : Prop :=
  ∀ (s : State) (i : Instr) (other : Vector Byte 6), s.connected = false →
    (i = .btns ∨ i = .btnButtons ∨ (∃ b, i = .btn b) ∨ ∃ a, i = .stick a) →
    ∃ t, exec i s = .next t ∧ RespondsOnly s t ⟨.ok, 0, []⟩ ∧
      exec i { s with snap := other } = .next { t with snap := other }

/-- REVB, REVBUF, BTN, BTNS and STICK issued twice with no command between them return the same response
twice (R51). -/
def Obligations.PureCommandsAreIdempotent : Prop :=
  ∀ (s : State) (i : Instr), exchangeFrame i = none →
    ∃ (t u : State) (r : Response), exec i s = .next t ∧ t.responses = s.responses ++ [r] ∧
      exec i t = .next u ∧ u.responses = s.responses ++ [r, r]

/-! ### The exchange, step by step (XCHG and POLL) -/

/-- The first step of XCHG and of POLL (R80 steps 1 and 2): the transmit buffer holds the reversed frame,
select is asserted with its event, the byte index is 0. That the buffer is loaded in the step of `CsAssert` is the
model's cut (log entry 7). -/
def Obligations.ExchangeBeginsBySelecting : Prop :=
  ∀ (i : Instr) (p : List Byte) (s : State), exchangeFrame i = some p → s.stage = .entry →
    ∃ t, exec i s = .next t ∧ Continues s t ∧ t.stage = .framing ∧ t.csN = .low ∧
      t.bus = s.bus ++ [.csAssert] ∧ t.xidx = 0 ∧ t.rxb = s.rxb ∧ t.answers = s.answers ∧
      ∀ k : Fin 16, t.txb.get k = ((p[k.val]?).map rev8).getD (s.txb.get k)

/-- One completed transfer of XCHG or POLL (R80 step 3, R9): `TXB[XIDX]` goes out, the Transport's byte is
stored at the same position, the index moves on, and the event is recorded. -/
def Obligations.TransferStoresTheAnswer : Prop :=
  ∀ (i : Instr) (p : List Byte) (s : State) (r : Byte) (rest : List Answer),
    exchangeFrame i = some p → i.wf = true → s.stage = .framing → s.xidx < p.length →
    s.answers = .byte r :: rest →
    ∃ t, exec i s = .next t ∧ Continues s t ∧ t.stage = .framing ∧ t.csN = s.csN ∧
      t.bus = s.bus ++ [.xfer (s.txb.toList.getD s.xidx 0) r] ∧ t.xidx = s.xidx + 1 ∧
      t.txb = s.txb ∧ t.answers = rest ∧
      ∀ k : Fin 16, t.rxb.get k = if k.val = s.xidx then r else s.rxb.get k

/-- A failed transfer of XCHG or POLL (R84, R86): it is recorded, the next step deasserts select, and the step
after that answers XFER_ERR with no data, whatever answers are still to come: no later transfer is tried. `SNAP`
and `CONNECTED` are as before. That "at once" leaves the deassertion a step of its own, as R86 lists it, is the
model's reading (log entry 8), and the response a step apart from it is the model's cut (log entry 7). -/
def Obligations.FailedTransferEndsTheExchange : Prop :=
  ∀ (i : Instr) (p : List Byte) (s : State) (rest : List Answer),
    exchangeFrame i = some p → s.stage = .framing → s.xidx < p.length → s.answers = .fail :: rest →
    s.xferCanFail = true →
    ∃ t u v, exec i s = .next t ∧ Continues s t ∧ t.stage = .failing ∧ t.csN = s.csN ∧
      t.bus = s.bus ++ [.xferFail (s.txb.toList.getD s.xidx 0)] ∧ t.xidx = s.xidx ∧
      t.txb = s.txb ∧ t.rxb = s.rxb ∧ t.answers = rest ∧
      exec i t = .next u ∧ Continues t u ∧ u.stage = .failed ∧ u.csN = .high ∧
      u.bus = t.bus ++ [.csDeassert] ∧ u.xidx = s.xidx ∧ u.txb = s.txb ∧ u.rxb = s.rxb ∧ u.answers = rest ∧
      exec i u = .next v ∧ EndsExchange u v ⟨.xferErr, 0, []⟩ ∧
      v.snap = s.snap ∧ v.connected = s.connected

/-- The last transfer done, XCHG and POLL deassert select (R80 step 4), by a step of its own (R86). That the
response is a step apart from it is the model's cut (log entry 7). -/
def Obligations.ExchangeEndsByDeselecting : Prop :=
  ∀ (i : Instr) (p : List Byte) (s : State), exchangeFrame i = some p → s.stage = .framing →
    s.xidx = p.length →
    ∃ t, exec i s = .next t ∧ Continues s t ∧ t.stage = .done ∧ t.csN = .high ∧
      t.bus = s.bus ++ [.csDeassert] ∧ t.xidx = s.xidx ∧ t.txb = s.txb ∧ t.rxb = s.rxb ∧
      t.answers = s.answers

/-- XCHG's own last step (R87): status OK and the logical received frame, byte `i` the reversal of `RXB[i]`;
`SNAP` and `CONNECTED` are as before (R85). That the response is a step apart from the deassertion is the model's
cut (log entry 7). -/
def Obligations.XchgAnswersTheReceivedFrame : Prop :=
  ∀ (p : List Byte) (s : State), s.stage = .done →
    ∃ t, exec (.xchg p) s = .next t ∧
      EndsExchange s t ⟨.ok, 0, (s.rxb.toList.take p.length).map rev8⟩ ∧
      t.snap = s.snap ∧ t.connected = s.connected

/-- POLL's own last step (R88 to R91): exactly when the logical byte 2 is 0x5A it stores logical bytes 3..8
as the snapshot, sets `CONNECTED` and answers 1; otherwise it leaves both as they are and answers 0. The
status is OK either way. -/
def Obligations.PollValidatesAndExtracts : Prop :=
  ∀ s : State, s.stage = .done →
    ∃ t, exec .poll s = .next t ∧
      if rev8 (s.rxb.get 2) = 0x5A then
        EndsExchange s t ⟨.ok, 1, []⟩ ∧ t.connected = true ∧
        t.snap.toList = ((s.rxb.toList.drop 3).take 6).map rev8
      else
        EndsExchange s t ⟨.ok, 0, []⟩ ∧ t.connected = s.connected ∧ t.snap = s.snap

/-- Response bytes 0 and 1 are discarded (R92): POLL's last step is the same whatever they are. -/
def Obligations.PollIgnoresBytesZeroAndOne : Prop :=
  ∀ (s : State) (x y : Byte), s.stage = .done →
    exec .poll { s with rxb := (s.rxb.set 0 x).set 1 y } = exec .poll s

/-- POLL's first step loads `TXB[0..8]` with `80 42 00 00 00 00 00 00 00`, the wire bytes of R93 (R80 step 1),
and a wire byte is the marker exactly when the logical byte is. What POLL transmits from there is the statement
`Obligations.PollTransmitsItsWireBytes`. -/
def Obligations.PollWireBytes : Prop :=
  (∀ s : State, s.stage = .entry → ∃ t, exec .poll s = .next t ∧
    t.txb.toList.take 9 = [0x80, 0x42, 0x00, 0x00, 0x00, 0x00, 0x00, 0x00, 0x00]) ∧
  ∀ r : Byte, r = 0x5A ↔ rev8 r = 0x5A

/-- The wire bytes POLL transmits are `80 42 00 00 00 00 00 00 00` (R93): in every state with the invariant in
which a POLL is under way, its transfer number `XIDX` sends the byte of that position, whether the Transport
answers it or fails; and once all nine completed, the history ends with one select frame whose nine `Xfer`
events carry these out-bytes in order. They are the reversals of the poll frame's bytes, and a wire byte is the
marker exactly when the logical byte is. -/
def Obligations.PollTransmitsItsWireBytes : Prop :=
  let wire : List Byte := [0x80, 0x42, 0x00, 0x00, 0x00, 0x00, 0x00, 0x00, 0x00]
  pollFrame.map rev8 = wire ∧
  (∀ (s : State) (r : Byte) (rest : List Answer), Inv s → s.phase = .busy → decode s.cur = .command .poll →
    rstNow s = false → s.stage = .framing → s.xidx < 9 →
    (s.answers = .byte r :: rest →
      ∃ t, step s = .next t ∧ t.bus = s.bus ++ [.xfer (wire.getD s.xidx 0) r]) ∧
    (s.answers = .fail :: rest → s.xferCanFail = true →
      ∃ t, step s = .next t ∧ t.bus = s.bus ++ [.xferFail (wire.getD s.xidx 0)])) ∧
  (∀ s : State, Inv s → decode s.cur = .command .poll → s.stage = .done →
    ∃ pre ins, ins.length = 9 ∧
      s.bus = pre ++ [.csAssert] ++ List.zipWith .xfer wire ins ++ [.csDeassert]) ∧
  ∀ r : Byte, r = 0x5A ↔ rev8 r = 0x5A

/-- A transfer the Transport has not answered (R126, U6): when no level of RST is to come either, the block is
stuck for ever and the model stops. That it waits, unchanged, while levels of RST are to come is the model's
reading (log entry 2). -/
def Obligations.SilentTransportHoldsTheBlock : Prop :=
  ∀ (i : Instr) (p : List Byte) (s : State), exchangeFrame i = some p → s.stage = .framing →
    s.xidx < p.length → s.answers = [] →
    exec i s = if s.rstIn = [] then .fault .transportSilent else .next s

/-! ### Whole commands -/

/-- XCHG as a whole (R80, R87): a block with the command at its port, no reset to come and `N` answering
bytes accepts it and after `N + 4` steps has sent the frame inside one select frame, answered the logical
received bytes, and changed neither `SNAP` nor `CONNECTED`. The stepwise exchange is the collapsed one (R86).
The number of steps is the model's choice: the acceptance and the response are steps of their own (log
entry 7). -/
def Obligations.XchgRunExchangesTheFrame : Prop :=
  ∀ (s : State) (w : Word) (p rs : List Byte) (cmds : List Command) (more : List Answer),
    s.phase = .idle → s.rstIn = [] → s.port = ⟨w, p⟩ :: cmds →
    decode ⟨w, p⟩ = .command (.xchg p) → rs.length = p.length → s.answers = rs.map .byte ++ more →
    ∃ t : State, runSteps (p.length + 4) s = .next t ∧
      t.bus = s.bus ++ [.csAssert] ++ transferEvents p rs ++ [.csDeassert] ∧
      t.responses = s.responses ++ [⟨.ok, 0, rs.map rev8⟩] ∧
      t.phase = .idle ∧ t.csN = .high ∧ t.snap = s.snap ∧ t.connected = s.connected ∧
      t.xidx = p.length ∧ t.port = cmds ∧ t.answers = more ∧ t.xferCanFail = s.xferCanFail

/-- POLL as a whole (R88, R2): with nine answering bytes and no reset to come it is accepted and after 13
steps has sent the poll frame inside one select frame; `SNAP` and `CONNECTED` are written exactly when the
logical byte 2 is 0x5A, and the answer says which. The number of steps is the model's choice (log entry 7). -/
def Obligations.PollRunUpdatesTheSnapshot : Prop :=
  ∀ (s : State) (rs : List Byte) (cmds : List Command) (more : List Answer),
    s.phase = .idle → s.rstIn = [] → s.port = ⟨0x4000, []⟩ :: cmds → rs.length = 9 →
    s.answers = rs.map .byte ++ more →
    ∃ t : State, runSteps 13 s = .next t ∧
      t.bus = s.bus ++ [.csAssert] ++
        transferEvents [0x01, 0x42, 0x00, 0x00, 0x00, 0x00, 0x00, 0x00, 0x00] rs ++ [.csDeassert] ∧
      t.phase = .idle ∧ t.csN = .high ∧ t.xidx = 9 ∧ t.port = cmds ∧ t.answers = more ∧
      if rev8 (rs.getD 2 0) = 0x5A then
        t.responses = s.responses ++ [⟨.ok, 1, []⟩] ∧ t.connected = true ∧
        t.snap.toList = (rs.drop 3).map rev8
      else
        t.responses = s.responses ++ [⟨.ok, 0, []⟩] ∧ t.connected = s.connected ∧ t.snap = s.snap

/-- A failed XCHG or POLL as a whole (R81, R84, R102): with `j` answering bytes, fewer than the frame has, and
then `FAIL`, the block performs `j + 1` transfers, ends with select deasserted and the response XFER_ERR, and
changes neither `SNAP` nor `CONNECTED`. The number of steps is the model's: the acceptance and the response are
steps of their own (log entry 7), and so is the deassertion after the failed transfer (R86, log entry 8). -/
def Obligations.FailedRunLeavesTheState : Prop :=
  ∀ (s : State) (cmd : Command) (i : Instr) (p rs : List Byte) (cmds : List Command) (more : List Answer),
    s.phase = .idle → s.rstIn = [] → s.port = cmd :: cmds → decode cmd = .command i →
    exchangeFrame i = some p → rs.length < p.length → s.answers = rs.map .byte ++ .fail :: more →
    s.xferCanFail = true →
    ∃ t : State, runSteps (rs.length + 5) s = .next t ∧
      t.bus = s.bus ++ [.csAssert] ++ transferEvents p rs ++
        [.xferFail (rev8 (p.getD rs.length 0)), .csDeassert] ∧
      t.responses = s.responses ++ [⟨.xferErr, 0, []⟩] ∧
      t.phase = .idle ∧ t.csN = .high ∧ t.snap = s.snap ∧ t.connected = s.connected ∧
      t.port = cmds ∧ t.answers = more

/-- A reset in the middle of an exchange (R117, R86, program P4 of `95_test_vectors.md`): RST becomes asserted
at the step after `j` transfers of an XCHG or POLL, `0 <= j <= N`. No later transfer is performed, the select
frame is closed by the reset's own `CsDeassert`, no response is delivered, `CONNECTED` is 0 and the block is
idle; the other commands still wait. The numbering of the steps is the model's choice (log entry 7), and so is
RST as a list of levels of which each step samples one (log entry 9). -/
def Obligations.ResetAbortsAnExchange : Prop :=
  ∀ (s : State) (cmd : Command) (i : Instr) (p rs : List Byte) (cmds : List Command) (more : List Answer)
    (levels : List Bool),
    s.phase = .idle → s.rstIn = List.replicate (rs.length + 2) false ++ true :: levels →
    s.port = cmd :: cmds → decode cmd = .command i → exchangeFrame i = some p → rs.length ≤ p.length →
    s.answers = rs.map .byte ++ more →
    ∃ t : State, runSteps (rs.length + 3) s = .next t ∧
      t.bus = s.bus ++ [.csAssert] ++ transferEvents p rs ++ [.csDeassert, .reset] ∧
      t.responses = s.responses ∧ t.connected = false ∧ t.phase = .idle ∧ t.csN = .high ∧ t.xidx = 0 ∧
      t.port = cmds ∧ t.answers = more ∧ t.rstIn = levels

/-- A reset that falls after a failed transfer and before select is deasserted (R117, R86, U13): with `j` answering
bytes, fewer than the frame has, and then `FAIL`, RST becomes asserted at the step that would deassert select. The
reset closes the select frame with its own `CsDeassert`, and no response is delivered: not XFER_ERR either. The
numbering of the steps is the model's (log entries 7 and 8), and so is RST as a list of levels of which each step
samples one (log entry 9). -/
def Obligations.ResetAfterAFailedTransfer : Prop :=
  ∀ (s : State) (cmd : Command) (i : Instr) (p rs : List Byte) (cmds : List Command) (more : List Answer)
    (levels : List Bool),
    s.phase = .idle → s.rstIn = List.replicate (rs.length + 3) false ++ true :: levels →
    s.port = cmd :: cmds → decode cmd = .command i → exchangeFrame i = some p → rs.length < p.length →
    s.answers = rs.map .byte ++ .fail :: more → s.xferCanFail = true →
    ∃ t u : State, runSteps (rs.length + 3) s = .next t ∧ t.csN = .low ∧
      t.bus = s.bus ++ [.csAssert] ++ transferEvents p rs ++ [.xferFail (rev8 (p.getD rs.length 0))] ∧
      step t = .next u ∧ u.bus = t.bus ++ [.csDeassert, .reset] ∧
      u.responses = s.responses ∧ u.connected = false ∧ u.phase = .idle ∧ u.csN = .high ∧ u.xidx = 0 ∧
      u.port = cmds ∧ u.answers = more ∧ u.rstIn = levels

/-- Two POLLs with identical valid answers leave the same `SNAP` and `CONNECTED`, so the queries answer the
same both times (R51). The numbers of steps are the model's choice (log entry 7). -/
def Obligations.RepeatedPollIsIdempotent : Prop :=
  ∀ (s : State) (rs : List Byte) (cmds : List Command) (more : List Answer),
    s.phase = .idle → s.rstIn = [] → s.port = ⟨0x4000, []⟩ :: ⟨0x4000, []⟩ :: cmds → rs.length = 9 →
    rev8 (rs.getD 2 0) = 0x5A → s.answers = rs.map .byte ++ rs.map .byte ++ more →
    ∃ t u : State, runSteps 13 s = .next t ∧ runSteps 26 s = .next u ∧
      u.snap = t.snap ∧ u.connected = t.connected ∧
      ∀ i : Instr, (i = .btns ∨ i = .btnButtons ∨ (∃ b, i = .btn b) ∨ ∃ a, i = .stick a) →
        ∃ t' u' : State, ∃ r : Response, exec i t = .next t' ∧ exec i u = .next u' ∧
          t'.responses = t.responses ++ [r] ∧ u'.responses = u.responses ++ [r]

/-! ### The step -/

/-- A step runs the decoded instruction: where RST is not asserted at this step and `CUR` of a busy block
decodes to a well-formed instruction, the step is `exec` of it, on the state RST's sampling leaves. That a step
samples one level of RST is the model's reading (log entry 9). -/
def Obligations.StepRunsTheDecodedCommand : Prop :=
  ∀ (s : State) (i : Instr), s.phase = .busy → rstNow s = false → decode s.cur = .command i →
    i.wf = true → step s = exec i { s with rstIn := s.rstIn.tail, rst := false }

/-- The command port (R34, R32, R115): an idle block with RST not asserted accepts the next command, or holds all
its state where none is presented. The model's are: the acceptance as a step of its own (log entry 7), the idle
step as a next state (log entry 11), and the level of RST that each of them samples (log entry 9). -/
def Obligations.IdleBlockAcceptsTheNextCommand : Prop :=
  ∀ s : State, s.phase = .idle → rstNow s = false →
    ∃ t, step s = .next t ∧
      match s.port with
      | [] => t = { s with rstIn := s.rstIn.tail, rst := false }
      | cmd :: rest => t = { s with
          rstIn := s.rstIn.tail, rst := false, port := rest, cur := cmd, phase := .busy, stage := .entry }

/-- Waiting commands are neither lost nor reordered (R34, R118): a step leaves the port as it is, or an idle
block takes its first command into `CUR`. -/
def Obligations.PortIsNeitherLostNorReordered : Prop :=
  ∀ s t : State, step s = .next t →
    t.port = s.port ∨
    (s.phase = .idle ∧ rstNow s = false ∧ t.phase = .busy ∧ s.port = t.cur :: t.port)

/-- Asserting RST, in any state (R116, R117): select ends deasserted with its event, then `Reset` is recorded,
`CONNECTED` is 0, the block is idle, `XIDX` is 0; a command in progress delivers no response, and the commands
presented and the answers to come are as they were. That RST is a list of levels of which a step samples one, and
that the effect comes once, where the level becomes asserted, is the model's reading (log entry 9). -/
def Obligations.ResetReturnsTheBlockToIdle : Prop :=
  ∀ (s : State) (levels : List Bool), s.rstIn = true :: levels → s.rst = false →
    ∃ t, step s = .next t ∧
      t.bus = s.bus ++ (if s.csN = .low then [.csDeassert, .reset] else [.reset]) ∧
      t.csN = .high ∧ t.connected = false ∧ t.phase = .idle ∧ t.xidx = 0 ∧
      t.responses = s.responses ∧ t.port = s.port ∧ t.answers = s.answers ∧
      t.xferCanFail = s.xferCanFail ∧ t.rst = true ∧ t.rstIn = levels

/-- While RST stays asserted nothing happens: no command is accepted (R118). That a held RST has no second
effect is the model's reading of "asserting" (log entry 9). -/
def Obligations.HeldResetAcceptsNothing : Prop :=
  ∀ (s : State) (levels : List Bool), s.rstIn = true :: levels → s.rst = true →
    step s = .next { s with rstIn := levels }

/-- The reset values the spec gives for the fields of State (R21, R24, and R32's for `PHASE` and `XIDX`). -/
def Obligations.ResetValues : Prop :=
  State.reset.connected = false ∧ State.reset.csN = .high ∧ State.reset.phase = .idle ∧
  State.reset.xidx = 0

/-- The machine after reset is the machine at power-on after one assertion of RST, in everything the spec
gives a value (R39, R116, N18). The history of one `Reset` and the empty responses and ports are the model's reading
(log entry 10), and `stage` is the model's own field (log entry 7). -/
def Obligations.ResetFromPowerOn : Prop :=
  ∃ t, step { State.powerOn with rstIn := [true] } = .next t ∧
    t.connected = State.reset.connected ∧ t.csN = State.reset.csN ∧ t.phase = State.reset.phase ∧
    t.stage = State.reset.stage ∧ t.xidx = State.reset.xidx ∧ t.bus = State.reset.bus ∧
    t.responses = State.reset.responses ∧ t.port = State.reset.port ∧ t.answers = State.reset.answers

/-! ### Whole-machine rules -/

/-- Every step keeps the invariant: the history is made of whole select frames, select is asserted only inside
an exchange, and the history ends with the events of the exchange under way, each transfer with the wire byte of
the command's own frame and the in-byte `RXB` holds. -/
def Obligations.StepKeepsTheInvariant : Prop :=
  ∀ s t : State, Inv s → step s = .next t → Inv t

/-- The machine after reset has the invariant. -/
def Obligations.ResetHasTheInvariant : Prop := Inv State.reset

/-- In every state with the invariant an idle block has select deasserted (R25, V1), and so has every idle
state a step leads to. -/
def Obligations.IdleMeansDeselected : Prop :=
  ∀ s : State, Inv s → (s.phase = .idle → s.csN = .high) ∧
    ∀ t, step s = .next t → t.phase = .idle → t.csN = .high

/-- The bus history and the list of responses only grow (R39): no step removes or changes an entry. -/
def Obligations.HistoryOnlyGrows : Prop :=
  ∀ s t : State, step s = .next t → s.bus <+: t.bus ∧ s.responses <+: t.responses

/-- A step delivers at most one response, and exactly when it ends the command of a busy block without a
reset (R11, R5, R117). -/
def Obligations.OneResponseEndsACommand : Prop :=
  ∀ s t : State, step s = .next t →
    (∃ r, t.responses = s.responses ++ [r] ∧ s.phase = .busy ∧ t.phase = .idle ∧
      rstNow s = false) ∨
    (t.responses = s.responses ∧
      (s.phase = .busy → t.phase = .idle → s.rst = false ∧ rstNow s = true))

/-- The 2-bit status codes (R26, D32) and who produces them: the codes are 0b00, 0b01 and 0b10, a code names its
status, 0b11 names none and no response carries it. In a state with the invariant, a step that delivers a
response delivers ILLEGAL exactly where `CUR` is malformed, and XFER_ERR exactly where a transfer of an XCHG or
POLL failed, whose Transport then can fail. -/
def Obligations.StatusCodesAndTheirProducers : Prop :=
  Status.ok.code = 0b00 ∧ Status.illegal.code = 0b01 ∧ Status.xferErr.code = 0b10 ∧
  (∀ (st : Status) (k : BitVec 2), Status.ofCode k = some st ↔ k = st.code) ∧
  (∀ r : Response, r.statusCode ≠ 0b11) ∧
  ∀ (s t : State) (r : Response), Inv s → step s = .next t → t.responses = s.responses ++ [r] →
    (r.statusCode = 0b01 ↔ ∃ why, decode s.cur = .illegal why) ∧
    (r.statusCode = 0b10 ↔ s.stage = .failed) ∧
    (r.statusCode = 0b10 → s.xferCanFail = true ∧ ∃ p, commandFrame s.cur = some p ∧
      ∃ pre o, s.bus = pre ++ [.xferFail o, .csDeassert])

/-- Only the last step of a POLL with a valid marker writes `SNAP` or `CONNECTED`, and it writes all of both
in one step (R16, R19, R22, R49); a reset is the one other event that touches them. -/
def Obligations.OnlyAValidPollWritesTheSnapshot : Prop :=
  ∀ s t : State, step s = .next t →
    (t.snap = s.snap ∧ t.connected = s.connected) ∨
    (s.phase = .busy ∧ decode s.cur = .command .poll ∧ s.stage = .done ∧ rev8 (s.rxb.get 2) = 0x5A ∧
      t.connected = true ∧ t.snap.toList = ((s.rxb.toList.drop 3).take 6).map rev8) ∨
    (s.rst = false ∧ rstNow s = true ∧ t.connected = false)

/-- `CONNECTED = 1` implies that `SNAP` holds bytes 3..8 of the last POLL with a valid marker since the last
`Reset` (V4, R19, R90, R91): with `last` an onlooker's record of that POLL, every step keeps the snapshot and
the flag in agreement with the record, and the record's exchange in the bus history. -/
def Obligations.SnapshotIsTheLastValidPolls : Prop :=
  ∀ (s t : State) (last : Option (List Byte)), Inv s → HoldsLastPoll last s → step s = .next t →
    HoldsLastPoll (lastPollAfter last s) t

/-- After reset no POLL has succeeded, and the snapshot and the flag agree with that. -/
def Obligations.ResetHoldsNoPoll : Prop := HoldsLastPoll none State.reset

/-- `CONNECTED` is sticky (R94, V5): a step that clears it is a reset and records `Reset`. -/
def Obligations.ConnectedIsSticky : Prop :=
  ∀ s t : State, step s = .next t → s.connected = true → t.connected = false →
    s.rst = false ∧ rstNow s = true ∧ ∃ pre, t.bus = s.bus ++ pre ++ [.reset]

/-- Only XCHG and POLL reach the outside of the block (R50): without a reset, a step that changes `CS_N` or
the bus history is a step of one of them. -/
def Obligations.OnlyExchangesReachTheBus : Prop :=
  ∀ s t : State, step s = .next t → rstNow s = false → (t.bus ≠ s.bus ∨ t.csN ≠ s.csN) →
    s.phase = .busy ∧ ∃ p, commandFrame s.cur = some p

/-- How a select frame closes (V3, R81, R83): after exactly the command's `N` transfers; or after `XIDX` of them,
fewer than `N`, and a failed transfer of the next byte, `TXB[XIDX]`, the wire byte of the frame's byte; or by a
reset. -/
def Obligations.SelectFramesAreWhole : Prop :=
  ∀ s t : State, Inv s → step s = .next t → s.csN = .low → t.csN = .high →
    (∃ p, commandFrame s.cur = some p ∧ busFrame s.bus = some (.opened p.length) ∧
      t.bus = s.bus ++ [.csDeassert]) ∨
    (∃ p pre, commandFrame s.cur = some p ∧ s.xidx < p.length ∧ busFrame s.bus = some (.broken s.xidx) ∧
      s.bus = pre ++ [.xferFail (s.txb.toList.getD s.xidx 0)] ∧ t.bus = s.bus ++ [.csDeassert] ∧
      s.txb.toList.getD s.xidx 0 = rev8 (p.getD s.xidx 0) ∧ s.xferCanFail = true) ∨
    t.bus = s.bus ++ [.csDeassert, .reset]

/-- A step takes its inputs in order and writes no parameter: at most the Transport's next answer (R36, R9), and
`XFER_CAN_FAIL` stays (R7). That it takes one level of RST is the model's reading (log entry 9). -/
def Obligations.InputsAreTakenInOrder : Prop :=
  ∀ s t : State, step s = .next t →
    t.rstIn = s.rstIn.tail ∧ (t.answers = s.answers ∨ ∃ a, s.answers = a :: t.answers) ∧
    t.xferCanFail = s.xferCanFail

/-- Where a step does not answer a next state: a transfer meets a silent Transport with no level of RST to come
(R126; that the block waits where one is to come is the model's reading, log entry 2), or an answer `FAIL` in a
machine whose Transport cannot fail (excluded by R7; the refusal is the model's choice, log entry 3). Nothing
else stops the block. -/
def Obligations.OnlyTheTransportStopsTheBlock : Prop :=
  ∀ s : State,
    (∀ f, step s = .fault f → s.phase = .busy ∧ s.stage = .framing ∧ s.answers = [] ∧ s.rstIn.tail = [] ∧
      ∃ p, commandFrame s.cur = some p ∧ s.xidx < p.length) ∧
    (∀ f, step s = .refused f → f = .failExcluded ∧ s.phase = .busy ∧ s.stage = .framing ∧
      s.xferCanFail = false ∧ ∃ rest, s.answers = .fail :: rest)

/-- Contents the spec calls unspecified are never observable (R17, R31, D30): runs from two states that differ
only in them stay indistinguishable for any number of steps, and stop alike. The contents at reset that log
entries 4, 5 and 6 name are among them, so nothing observable rests on those choices. -/
def Obligations.UnspecifiedContentsAreUnobservable : Prop :=
  ∀ (n : Nat) (s t : State), Indistinguishable s t →
    SameOutcome (runSteps n s) (runSteps n t)
end

