-- ==== Sys2Proof/Laws/State.lean ====
section
/-! SUPPORT. One lemma for each field under each update of the state. -/

namespace Sys2Proof.Machine

/-! ### `setSelect` -/

section
variable (a : Bool) (s : State)

@[simp] theorem setSelect_snap : (setSelect a s).snap = s.snap := rfl
@[simp] theorem setSelect_connected : (setSelect a s).connected = s.connected := rfl
@[simp] theorem setSelect_csN : (setSelect a s).csN = if a then .low else .high := rfl
@[simp] theorem setSelect_phase : (setSelect a s).phase = s.phase := rfl
@[simp] theorem setSelect_cur : (setSelect a s).cur = s.cur := rfl
@[simp] theorem setSelect_xidx : (setSelect a s).xidx = s.xidx := rfl
@[simp] theorem setSelect_stage : (setSelect a s).stage = s.stage := rfl
@[simp] theorem setSelect_txb : (setSelect a s).txb = s.txb := rfl
@[simp] theorem setSelect_rxb : (setSelect a s).rxb = s.rxb := rfl
@[simp] theorem setSelect_bus :
    (setSelect a s).bus = s.bus ++ [if a then .csAssert else .csDeassert] := rfl
@[simp] theorem setSelect_responses : (setSelect a s).responses = s.responses := rfl
@[simp] theorem setSelect_port : (setSelect a s).port = s.port := rfl
@[simp] theorem setSelect_answers : (setSelect a s).answers = s.answers := rfl
@[simp] theorem setSelect_rstIn : (setSelect a s).rstIn = s.rstIn := rfl
@[simp] theorem setSelect_rst : (setSelect a s).rst = s.rst := rfl
@[simp] theorem setSelect_xferCanFail : (setSelect a s).xferCanFail = s.xferCanFail := rfl
@[simp] theorem setSelect_freeCtr : (setSelect a s).freeCtr = s.freeCtr := rfl

end

/-! ### `forgetBuffers` -/

section
variable (s : State)

@[simp] theorem forgetBuffers_snap : (forgetBuffers s).snap = s.snap := rfl
@[simp] theorem forgetBuffers_connected : (forgetBuffers s).connected = s.connected := rfl
@[simp] theorem forgetBuffers_csN : (forgetBuffers s).csN = s.csN := rfl
@[simp] theorem forgetBuffers_phase : (forgetBuffers s).phase = s.phase := rfl
@[simp] theorem forgetBuffers_cur : (forgetBuffers s).cur = s.cur := rfl
@[simp] theorem forgetBuffers_xidx : (forgetBuffers s).xidx = s.xidx := rfl
@[simp] theorem forgetBuffers_stage : (forgetBuffers s).stage = s.stage := rfl
@[simp] theorem forgetBuffers_txb : (forgetBuffers s).txb = freeBytes 16 s.freeCtr := rfl
@[simp] theorem forgetBuffers_rxb : (forgetBuffers s).rxb = freeBytes 16 (s.freeCtr + 16) := rfl
@[simp] theorem forgetBuffers_bus : (forgetBuffers s).bus = s.bus := rfl
@[simp] theorem forgetBuffers_responses : (forgetBuffers s).responses = s.responses := rfl
@[simp] theorem forgetBuffers_port : (forgetBuffers s).port = s.port := rfl
@[simp] theorem forgetBuffers_answers : (forgetBuffers s).answers = s.answers := rfl
@[simp] theorem forgetBuffers_rstIn : (forgetBuffers s).rstIn = s.rstIn := rfl
@[simp] theorem forgetBuffers_rst : (forgetBuffers s).rst = s.rst := rfl
@[simp] theorem forgetBuffers_xferCanFail : (forgetBuffers s).xferCanFail = s.xferCanFail := rfl
@[simp] theorem forgetBuffers_freeCtr : (forgetBuffers s).freeCtr = s.freeCtr + 32 := rfl

end

/-! ### `respond` -/

section
variable (st : Status) (d : Word) (l : List Byte) (s : State)

@[simp] theorem respond_snap : (respond st d l s).snap = s.snap := rfl
@[simp] theorem respond_connected : (respond st d l s).connected = s.connected := rfl
@[simp] theorem respond_csN : (respond st d l s).csN = s.csN := rfl
@[simp] theorem respond_phase : (respond st d l s).phase = .idle := rfl
@[simp] theorem respond_cur : (respond st d l s).cur = Config.freeCommand s.freeCtr := rfl
@[simp] theorem respond_xidx : (respond st d l s).xidx = s.xidx := rfl
@[simp] theorem respond_stage : (respond st d l s).stage = .entry := rfl
@[simp] theorem respond_txb : (respond st d l s).txb = s.txb := rfl
@[simp] theorem respond_rxb : (respond st d l s).rxb = s.rxb := rfl
@[simp] theorem respond_bus : (respond st d l s).bus = s.bus := rfl
@[simp] theorem respond_responses :
    (respond st d l s).responses = s.responses ++ [⟨st, d, l⟩] := rfl
@[simp] theorem respond_port : (respond st d l s).port = s.port := rfl
@[simp] theorem respond_answers : (respond st d l s).answers = s.answers := rfl
@[simp] theorem respond_rstIn : (respond st d l s).rstIn = s.rstIn := rfl
@[simp] theorem respond_rst : (respond st d l s).rst = s.rst := rfl
@[simp] theorem respond_xferCanFail : (respond st d l s).xferCanFail = s.xferCanFail := rfl
@[simp] theorem respond_freeCtr : (respond st d l s).freeCtr = s.freeCtr + 1 := rfl

end

/-! ### `raiseIllegal` -/

section
variable (s : State)

@[simp] theorem raiseIllegal_snap : (raiseIllegal s).snap = s.snap := rfl
@[simp] theorem raiseIllegal_connected : (raiseIllegal s).connected = s.connected := rfl
@[simp] theorem raiseIllegal_csN : (raiseIllegal s).csN = s.csN := rfl
@[simp] theorem raiseIllegal_phase : (raiseIllegal s).phase = .idle := rfl
@[simp] theorem raiseIllegal_cur : (raiseIllegal s).cur = Config.freeCommand s.freeCtr := rfl
@[simp] theorem raiseIllegal_xidx : (raiseIllegal s).xidx = s.xidx := rfl
@[simp] theorem raiseIllegal_stage : (raiseIllegal s).stage = .entry := rfl
@[simp] theorem raiseIllegal_txb : (raiseIllegal s).txb = s.txb := rfl
@[simp] theorem raiseIllegal_rxb : (raiseIllegal s).rxb = s.rxb := rfl
@[simp] theorem raiseIllegal_bus : (raiseIllegal s).bus = s.bus := rfl
@[simp] theorem raiseIllegal_responses :
    (raiseIllegal s).responses = s.responses ++ [⟨.illegal, 0, []⟩] := rfl
@[simp] theorem raiseIllegal_port : (raiseIllegal s).port = s.port := rfl
@[simp] theorem raiseIllegal_answers : (raiseIllegal s).answers = s.answers := rfl
@[simp] theorem raiseIllegal_rstIn : (raiseIllegal s).rstIn = s.rstIn := rfl
@[simp] theorem raiseIllegal_rst : (raiseIllegal s).rst = s.rst := rfl
@[simp] theorem raiseIllegal_xferCanFail : (raiseIllegal s).xferCanFail = s.xferCanFail := rfl
@[simp] theorem raiseIllegal_freeCtr : (raiseIllegal s).freeCtr = s.freeCtr + 1 := rfl

end

/-! ### `raiseXferError` -/

section
variable (s : State)

@[simp] theorem raiseXferError_snap : (raiseXferError s).snap = s.snap := by
  simp only [raiseXferError, respond_snap, forgetBuffers_snap]
@[simp] theorem raiseXferError_connected : (raiseXferError s).connected = s.connected := by
  simp only [raiseXferError, respond_connected, forgetBuffers_connected]
@[simp] theorem raiseXferError_csN : (raiseXferError s).csN = s.csN := by
  simp only [raiseXferError, respond_csN, forgetBuffers_csN]
@[simp] theorem raiseXferError_phase : (raiseXferError s).phase = .idle := by
  simp only [raiseXferError, respond_phase]
@[simp] theorem raiseXferError_cur :
    (raiseXferError s).cur = Config.freeCommand (s.freeCtr + 32) := by
  simp only [raiseXferError, respond_cur, forgetBuffers_freeCtr]
@[simp] theorem raiseXferError_xidx : (raiseXferError s).xidx = s.xidx := by
  simp only [raiseXferError, respond_xidx, forgetBuffers_xidx]
@[simp] theorem raiseXferError_stage : (raiseXferError s).stage = .entry := by
  simp only [raiseXferError, respond_stage]
@[simp] theorem raiseXferError_txb : (raiseXferError s).txb = freeBytes 16 s.freeCtr := by
  simp only [raiseXferError, respond_txb, forgetBuffers_txb]
@[simp] theorem raiseXferError_rxb : (raiseXferError s).rxb = freeBytes 16 (s.freeCtr + 16) := by
  simp only [raiseXferError, respond_rxb, forgetBuffers_rxb]
@[simp] theorem raiseXferError_bus : (raiseXferError s).bus = s.bus := by
  simp only [raiseXferError, respond_bus, forgetBuffers_bus]
@[simp] theorem raiseXferError_responses :
    (raiseXferError s).responses = s.responses ++ [⟨.xferErr, 0, []⟩] := by
  simp only [raiseXferError, respond_responses, forgetBuffers_responses]
@[simp] theorem raiseXferError_port : (raiseXferError s).port = s.port := by
  simp only [raiseXferError, respond_port, forgetBuffers_port]
@[simp] theorem raiseXferError_answers : (raiseXferError s).answers = s.answers := by
  simp only [raiseXferError, respond_answers, forgetBuffers_answers]
@[simp] theorem raiseXferError_rstIn : (raiseXferError s).rstIn = s.rstIn := by
  simp only [raiseXferError, respond_rstIn, forgetBuffers_rstIn]
@[simp] theorem raiseXferError_rst : (raiseXferError s).rst = s.rst := by
  simp only [raiseXferError, respond_rst, forgetBuffers_rst]
@[simp] theorem raiseXferError_xferCanFail : (raiseXferError s).xferCanFail = s.xferCanFail := by
  simp only [raiseXferError, respond_xferCanFail, forgetBuffers_xferCanFail]
@[simp] theorem raiseXferError_freeCtr : (raiseXferError s).freeCtr = s.freeCtr + 32 + 1 := by
  simp only [raiseXferError, respond_freeCtr, forgetBuffers_freeCtr]

end

/-! ### `beginExchange` -/

section
variable (p : List Byte) (s : State)

@[simp] theorem beginExchange_snap : (beginExchange p s).snap = s.snap := rfl
@[simp] theorem beginExchange_connected : (beginExchange p s).connected = s.connected := rfl
@[simp] theorem beginExchange_csN : (beginExchange p s).csN = .low := rfl
@[simp] theorem beginExchange_phase : (beginExchange p s).phase = s.phase := rfl
@[simp] theorem beginExchange_cur : (beginExchange p s).cur = s.cur := rfl
@[simp] theorem beginExchange_xidx : (beginExchange p s).xidx = 0 := rfl
@[simp] theorem beginExchange_stage : (beginExchange p s).stage = .framing := rfl
@[simp] theorem beginExchange_txb : (beginExchange p s).txb = loadTxb p s.txb := rfl
@[simp] theorem beginExchange_rxb : (beginExchange p s).rxb = s.rxb := rfl
@[simp] theorem beginExchange_bus : (beginExchange p s).bus = s.bus ++ [.csAssert] := rfl
@[simp] theorem beginExchange_responses : (beginExchange p s).responses = s.responses := rfl
@[simp] theorem beginExchange_port : (beginExchange p s).port = s.port := rfl
@[simp] theorem beginExchange_answers : (beginExchange p s).answers = s.answers := rfl
@[simp] theorem beginExchange_rstIn : (beginExchange p s).rstIn = s.rstIn := rfl
@[simp] theorem beginExchange_rst : (beginExchange p s).rst = s.rst := rfl
@[simp] theorem beginExchange_xferCanFail : (beginExchange p s).xferCanFail = s.xferCanFail := rfl
@[simp] theorem beginExchange_freeCtr : (beginExchange p s).freeCtr = s.freeCtr := rfl

end

/-! ### `recordTransfer` -/

section
variable (r : Byte) (s : State)

@[simp] theorem recordTransfer_snap : (recordTransfer r s).snap = s.snap := rfl
@[simp] theorem recordTransfer_connected : (recordTransfer r s).connected = s.connected := rfl
@[simp] theorem recordTransfer_csN : (recordTransfer r s).csN = s.csN := rfl
@[simp] theorem recordTransfer_phase : (recordTransfer r s).phase = s.phase := rfl
@[simp] theorem recordTransfer_cur : (recordTransfer r s).cur = s.cur := rfl
@[simp] theorem recordTransfer_xidx : (recordTransfer r s).xidx = s.xidx + 1 := rfl
@[simp] theorem recordTransfer_stage : (recordTransfer r s).stage = s.stage := rfl
@[simp] theorem recordTransfer_txb : (recordTransfer r s).txb = s.txb := rfl
@[simp] theorem recordTransfer_rxb : (recordTransfer r s).rxb = s.rxb.setIfInBounds s.xidx r := rfl
@[simp] theorem recordTransfer_bus :
    (recordTransfer r s).bus = s.bus ++ [.xfer (outByte s) r] := rfl
@[simp] theorem recordTransfer_responses : (recordTransfer r s).responses = s.responses := rfl
@[simp] theorem recordTransfer_port : (recordTransfer r s).port = s.port := rfl
@[simp] theorem recordTransfer_answers : (recordTransfer r s).answers = s.answers := rfl
@[simp] theorem recordTransfer_rstIn : (recordTransfer r s).rstIn = s.rstIn := rfl
@[simp] theorem recordTransfer_rst : (recordTransfer r s).rst = s.rst := rfl
@[simp] theorem recordTransfer_xferCanFail : (recordTransfer r s).xferCanFail = s.xferCanFail := rfl
@[simp] theorem recordTransfer_freeCtr : (recordTransfer r s).freeCtr = s.freeCtr := rfl

end

/-! ### `failTransfer` -/

section
variable (s : State)

@[simp] theorem failTransfer_snap : (failTransfer s).snap = s.snap := rfl
@[simp] theorem failTransfer_connected : (failTransfer s).connected = s.connected := rfl
@[simp] theorem failTransfer_csN : (failTransfer s).csN = s.csN := rfl
@[simp] theorem failTransfer_phase : (failTransfer s).phase = s.phase := rfl
@[simp] theorem failTransfer_cur : (failTransfer s).cur = s.cur := rfl
@[simp] theorem failTransfer_xidx : (failTransfer s).xidx = s.xidx := rfl
@[simp] theorem failTransfer_stage : (failTransfer s).stage = .failing := rfl
@[simp] theorem failTransfer_txb : (failTransfer s).txb = s.txb := rfl
@[simp] theorem failTransfer_rxb : (failTransfer s).rxb = s.rxb := rfl
@[simp] theorem failTransfer_bus : (failTransfer s).bus = s.bus ++ [.xferFail (outByte s)] := rfl
@[simp] theorem failTransfer_responses : (failTransfer s).responses = s.responses := rfl
@[simp] theorem failTransfer_port : (failTransfer s).port = s.port := rfl
@[simp] theorem failTransfer_answers : (failTransfer s).answers = s.answers := rfl
@[simp] theorem failTransfer_rstIn : (failTransfer s).rstIn = s.rstIn := rfl
@[simp] theorem failTransfer_rst : (failTransfer s).rst = s.rst := rfl
@[simp] theorem failTransfer_xferCanFail : (failTransfer s).xferCanFail = s.xferCanFail := rfl
@[simp] theorem failTransfer_freeCtr : (failTransfer s).freeCtr = s.freeCtr := rfl

end

/-! ### `abortExchange` -/

section
variable (s : State)

@[simp] theorem abortExchange_snap : (abortExchange s).snap = s.snap := rfl
@[simp] theorem abortExchange_connected : (abortExchange s).connected = s.connected := rfl
@[simp] theorem abortExchange_csN : (abortExchange s).csN = .high := rfl
@[simp] theorem abortExchange_phase : (abortExchange s).phase = s.phase := rfl
@[simp] theorem abortExchange_cur : (abortExchange s).cur = s.cur := rfl
@[simp] theorem abortExchange_xidx : (abortExchange s).xidx = s.xidx := rfl
@[simp] theorem abortExchange_stage : (abortExchange s).stage = .failed := rfl
@[simp] theorem abortExchange_txb : (abortExchange s).txb = s.txb := rfl
@[simp] theorem abortExchange_rxb : (abortExchange s).rxb = s.rxb := rfl
@[simp] theorem abortExchange_bus : (abortExchange s).bus = s.bus ++ [.csDeassert] := rfl
@[simp] theorem abortExchange_responses : (abortExchange s).responses = s.responses := rfl
@[simp] theorem abortExchange_port : (abortExchange s).port = s.port := rfl
@[simp] theorem abortExchange_answers : (abortExchange s).answers = s.answers := rfl
@[simp] theorem abortExchange_rstIn : (abortExchange s).rstIn = s.rstIn := rfl
@[simp] theorem abortExchange_rst : (abortExchange s).rst = s.rst := rfl
@[simp] theorem abortExchange_xferCanFail : (abortExchange s).xferCanFail = s.xferCanFail := rfl
@[simp] theorem abortExchange_freeCtr : (abortExchange s).freeCtr = s.freeCtr := rfl

end

/-! ### `endExchange` -/

section
variable (s : State)

@[simp] theorem endExchange_snap : (endExchange s).snap = s.snap := rfl
@[simp] theorem endExchange_connected : (endExchange s).connected = s.connected := rfl
@[simp] theorem endExchange_csN : (endExchange s).csN = .high := rfl
@[simp] theorem endExchange_phase : (endExchange s).phase = s.phase := rfl
@[simp] theorem endExchange_cur : (endExchange s).cur = s.cur := rfl
@[simp] theorem endExchange_xidx : (endExchange s).xidx = s.xidx := rfl
@[simp] theorem endExchange_stage : (endExchange s).stage = .done := rfl
@[simp] theorem endExchange_txb : (endExchange s).txb = s.txb := rfl
@[simp] theorem endExchange_rxb : (endExchange s).rxb = s.rxb := rfl
@[simp] theorem endExchange_bus : (endExchange s).bus = s.bus ++ [.csDeassert] := rfl
@[simp] theorem endExchange_responses : (endExchange s).responses = s.responses := rfl
@[simp] theorem endExchange_port : (endExchange s).port = s.port := rfl
@[simp] theorem endExchange_answers : (endExchange s).answers = s.answers := rfl
@[simp] theorem endExchange_rstIn : (endExchange s).rstIn = s.rstIn := rfl
@[simp] theorem endExchange_rst : (endExchange s).rst = s.rst := rfl
@[simp] theorem endExchange_xferCanFail : (endExchange s).xferCanFail = s.xferCanFail := rfl
@[simp] theorem endExchange_freeCtr : (endExchange s).freeCtr = s.freeCtr := rfl

end

/-! ### `storeSnapshot` -/

section
variable (l : List Byte) (s : State)

@[simp] theorem storeSnapshot_snap : (storeSnapshot l s).snap = extractPayload l := rfl
@[simp] theorem storeSnapshot_connected : (storeSnapshot l s).connected = true := rfl
@[simp] theorem storeSnapshot_csN : (storeSnapshot l s).csN = s.csN := rfl
@[simp] theorem storeSnapshot_phase : (storeSnapshot l s).phase = s.phase := rfl
@[simp] theorem storeSnapshot_cur : (storeSnapshot l s).cur = s.cur := rfl
@[simp] theorem storeSnapshot_xidx : (storeSnapshot l s).xidx = s.xidx := rfl
@[simp] theorem storeSnapshot_stage : (storeSnapshot l s).stage = s.stage := rfl
@[simp] theorem storeSnapshot_txb : (storeSnapshot l s).txb = s.txb := rfl
@[simp] theorem storeSnapshot_rxb : (storeSnapshot l s).rxb = s.rxb := rfl
@[simp] theorem storeSnapshot_bus : (storeSnapshot l s).bus = s.bus := rfl
@[simp] theorem storeSnapshot_responses : (storeSnapshot l s).responses = s.responses := rfl
@[simp] theorem storeSnapshot_port : (storeSnapshot l s).port = s.port := rfl
@[simp] theorem storeSnapshot_answers : (storeSnapshot l s).answers = s.answers := rfl
@[simp] theorem storeSnapshot_rstIn : (storeSnapshot l s).rstIn = s.rstIn := rfl
@[simp] theorem storeSnapshot_rst : (storeSnapshot l s).rst = s.rst := rfl
@[simp] theorem storeSnapshot_xferCanFail : (storeSnapshot l s).xferCanFail = s.xferCanFail := rfl
@[simp] theorem storeSnapshot_freeCtr : (storeSnapshot l s).freeCtr = s.freeCtr := rfl

end

/-! ### `applyReset` -/

section
variable (s : State)

@[simp] theorem applyReset_snap : (applyReset s).snap = freeBytes 6 s.freeCtr := rfl
@[simp] theorem applyReset_connected : (applyReset s).connected = false := rfl
@[simp] theorem applyReset_csN : (applyReset s).csN = .high := rfl
@[simp] theorem applyReset_phase : (applyReset s).phase = .idle := rfl
@[simp] theorem applyReset_cur : (applyReset s).cur = Config.freeCommand (s.freeCtr + 38) := rfl
@[simp] theorem applyReset_xidx : (applyReset s).xidx = 0 := rfl
@[simp] theorem applyReset_stage : (applyReset s).stage = .entry := rfl
@[simp] theorem applyReset_txb : (applyReset s).txb = freeBytes 16 (s.freeCtr + 6) := rfl
@[simp] theorem applyReset_rxb : (applyReset s).rxb = freeBytes 16 (s.freeCtr + 22) := rfl
@[simp] theorem applyReset_bus : (applyReset s).bus = s.bus ++ resetEvents s.csN := rfl
@[simp] theorem applyReset_responses : (applyReset s).responses = s.responses := rfl
@[simp] theorem applyReset_port : (applyReset s).port = s.port := rfl
@[simp] theorem applyReset_answers : (applyReset s).answers = s.answers := rfl
@[simp] theorem applyReset_rstIn : (applyReset s).rstIn = s.rstIn := rfl
@[simp] theorem applyReset_rst : (applyReset s).rst = s.rst := rfl
@[simp] theorem applyReset_xferCanFail : (applyReset s).xferCanFail = s.xferCanFail := rfl
@[simp] theorem applyReset_freeCtr : (applyReset s).freeCtr = s.freeCtr + 39 := rfl

end

end Sys2Proof.Machine
end

