-- ==== Sys2Proof/Laws/Ops.lean ====
section
/-! SUPPORT. For each shared operation, once, everything it can do; later proofs cite these lemmas instead of
unfolding the operations. -/

namespace Sys2Proof.Machine

/-! ### The status codes -/

@[simp] theorem Status.code_ok : Status.ok.code = 0b00 := rfl
@[simp] theorem Status.code_illegal : Status.illegal.code = 0b01 := rfl
@[simp] theorem Status.code_xferErr : Status.xferErr.code = 0b10 := rfl
@[simp] theorem Response.statusCode_eq (r : Response) : r.statusCode = r.status.code := rfl

/-! ### The bus history -/

/-- One more event in a history. -/
theorem busFrame_append_singleton (history : List Event) (e : Event) :
    busFrame (history ++ [e]) = (busFrame history).bind fun f => f.after e := by
  simp [busFrame]

/-- The in-bytes of two stretches of a history. -/
theorem inBytes_append (l m : List Event) : inBytes (l ++ m) = inBytes l ++ inBytes m := by
  simp [inBytes]

/-- The transfer events of a frame cut in two. -/
theorem transferEvents_append (p q rs us : List Byte) (h : p.length = rs.length) :
    transferEvents (p ++ q) (rs ++ us) = transferEvents p rs ++ transferEvents q us := by
  simp [transferEvents, List.zipWith_append h]

/-! ### The buffers -/

/-- An entry of a loaded transmit buffer: the reversed byte of the frame, or the old entry past its end. -/
theorem loadTxb_get (p : List Byte) (b : Vector Byte 16) (k : Fin 16) :
    (loadTxb p b).get k = ((p[k.val]?).map reverseBits).getD (b.get k) := by
  simp [loadTxb, Vector.get_eq_getElem]

/-- The first `N` entries of a loaded transmit buffer are the reversed frame. -/
theorem loadTxb_take (p : List Byte) (b : Vector Byte 16) (hp : p.length ≤ 16) :
    (loadTxb p b).toList.take p.length = p.map reverseBits := by
  apply List.ext_getElem?
  intro k
  by_cases hk : k < p.length
  · have hk16 : k < 16 := by omega
    simp [loadTxb, hk, hk16]
  · simp [hk]

/-- After the byte of position `k` is stored, the first `k + 1` entries are the first `k` and that byte. -/
theorem take_succ_setIfInBounds (b : Vector Byte 16) (k : Nat) (r : Byte) (hk : k < 16) :
    (b.setIfInBounds k r).toList.take (k + 1) = b.toList.take k ++ [r] := by
  have hlen : b.toList.length = 16 := by simp
  rw [Vector.toList_setIfInBounds, List.take_add_one, List.take_set_of_le (Nat.le_refl k)]
  simp [hk]

/-- A stored byte changes its own entry and no other. -/
theorem setIfInBounds_get (b : Vector Byte 16) (k : Nat) (r : Byte) (j : Fin 16) :
    (b.setIfInBounds k r).get j = if j.val = k then r else b.get j := by
  simp only [Vector.get_eq_getElem, Vector.getElem_setIfInBounds]
  simp [eq_comm]

/-- The extracted payload is bytes 3..8 of the frame, in order. -/
theorem extractPayload_get (r : List Byte) (k : Fin 6) : (extractPayload r).get k = frameByte r (3 + k.val) := by
  simp [extractPayload, Vector.get_eq_getElem]

/-- A received frame has the length asked for. -/
theorem receivedFrame_length (n : Nat) (s : State) (hn : n ≤ 16) : (receivedFrame n s).length = n := by
  simp [receivedFrame, reverseBuffer, hn]

/-! ### The reset input -/

/-- RST not asserted at this step: only the input is consumed. -/
theorem sampleRst_released (s : State) (h : rstNow s = false) :
    sampleRst s = { s with rstIn := s.rstIn.tail, rst := false } := by
  simp [sampleRst, h]

/-- RST becomes asserted at this step: the block is reset. -/
theorem sampleRst_asserted (s : State) (h : rstNow s = true) (hr : s.rst = false) :
    sampleRst s = applyReset { s with rstIn := s.rstIn.tail, rst := true } := by
  simp [sampleRst, h, hr]

/-- RST stays asserted at this step: only the input is consumed. -/
theorem sampleRst_held (s : State) (h : rstNow s = true) (hr : s.rst = true) :
    sampleRst s = { s with rstIn := s.rstIn.tail, rst := true } := by
  simp [sampleRst, h, hr]

/-! ### The transfers and the exchange -/

/-- Everything a transfer can do. -/
theorem transfer_cases (s : State) :
    (∃ r rest, s.answers = .byte r :: rest ∧
      transfer s = .next (recordTransfer r { s with answers := rest })) ∨
    (∃ rest, s.answers = .fail :: rest ∧ s.xferCanFail = true ∧
      transfer s = .next (failTransfer { s with answers := rest })) ∨
    (∃ rest, s.answers = .fail :: rest ∧ s.xferCanFail = false ∧ transfer s = .refused .failExcluded) ∨
    (s.answers = [] ∧ s.rstIn = [] ∧ transfer s = .fault .transportSilent) ∨
    (s.answers = [] ∧ s.rstIn ≠ [] ∧ transfer s = .next s) := by
  unfold transfer
  rcases hans : s.answers with _ | ⟨_ | _, rest⟩
  · rcases hin : s.rstIn with _ | _ <;> simp
  · simp
  · cases hfail : s.xferCanFail <;> simp

/-- Everything one step of an exchange command can do, by its position. -/
theorem exchangeStep_cases (p : List Byte) (finish : List Byte → State → State) (s : State) :
    (s.stage = .entry ∧ exchangeStep p finish s = .next (beginExchange p s)) ∨
    (s.stage = .framing ∧ s.xidx < p.length ∧ exchangeStep p finish s = transfer s) ∨
    (s.stage = .framing ∧ p.length ≤ s.xidx ∧ exchangeStep p finish s = .next (endExchange s)) ∨
    (s.stage = .failing ∧ exchangeStep p finish s = .next (abortExchange s)) ∨
    (s.stage = .done ∧
      exchangeStep p finish s = .next (finish (receivedFrame p.length s) (forgetBuffers s))) ∨
    (s.stage = .failed ∧ exchangeStep p finish s = .next (raiseXferError s)) := by
  unfold exchangeStep
  rcases hst : s.stage with _ | _ | _ | _ | _ <;> simp
  by_cases hx : s.xidx < p.length
  · simp [hx]
  · exact .inr ⟨by omega, by simp [hx]⟩

/-- POLL's own last step, by the marker. -/
theorem finishPoll_cases (r : List Byte) (s : State) :
    (markerValid r = true ∧ finishPoll r s = respond .ok 1 [] (storeSnapshot r s)) ∨
    (markerValid r = false ∧ finishPoll r s = respond .ok 0 [] s) := by
  unfold finishPoll
  cases hm : markerValid r <;> simp

/-- Everything a meaning can do: a command that exchanges no frame responds at once with status OK, and one
that exchanges a frame takes one step of the exchange. -/
theorem exec_cases (i : Instr) (s : State) :
    (exchangeFrame i = none ∧ ∃ d l, exec i s = .next (respond .ok d l s)) ∨
    (∃ p, i = .xchg p ∧ exec i s = exchangeStep p (respond .ok 0) s) ∨
    (i = .poll ∧ exec i s = exchangeStep pollFrame finishPoll s) := by
  cases i with
  | revb v => exact .inl ⟨rfl, _, _, rfl⟩
  | revbuf p => exact .inl ⟨rfl, _, _, rfl⟩
  | xchg p => exact .inr (.inl ⟨p, rfl, rfl⟩)
  | poll => exact .inr (.inr ⟨rfl, rfl⟩)
  | btn b => exact .inl ⟨rfl, _, _, rfl⟩
  | btns => exact .inl ⟨rfl, _, _, rfl⟩
  | stick a => exact .inl ⟨rfl, _, _, rfl⟩
  | btnButtons => exact .inl ⟨rfl, _, _, rfl⟩

/-! ### The command port and the step -/

/-- Everything the step of an idle block can do. -/
theorem acceptNext_cases (s : State) :
    (s.port = [] ∧ acceptNext s = s) ∨
    (∃ cmd rest, s.port = cmd :: rest ∧
      acceptNext s = { s with port := rest, phase := .busy, cur := cmd, stage := .entry }) := by
  unfold acceptNext
  rcases hport : s.port with _ | ⟨cmd, rest⟩ <;> simp

/-- Everything a step can do: RST's level first, then the phase, then what `CUR` decodes to. -/
theorem step_cases (s : State) :
    (rstNow s = true ∧ s.rst = false ∧
      step s = .next (applyReset { s with rstIn := s.rstIn.tail, rst := true })) ∨
    (rstNow s = true ∧ s.rst = true ∧
      step s = .next { s with rstIn := s.rstIn.tail, rst := true }) ∨
    (rstNow s = false ∧ s.phase = .idle ∧
      step s = .next (acceptNext { s with rstIn := s.rstIn.tail, rst := false })) ∨
    (rstNow s = false ∧ s.phase = .busy ∧ ∃ i, decode s.cur = .command i ∧
      step s = exec i { s with rstIn := s.rstIn.tail, rst := false }) ∨
    (rstNow s = false ∧ s.phase = .busy ∧ (∃ why, decode s.cur = .illegal why) ∧
      step s = .next (raiseIllegal { s with rstIn := s.rstIn.tail, rst := false })) := by
  cases hlevel : rstNow s with
  | true =>
    cases hrst : s.rst with
    | false => simp [step, sampleRst_asserted s hlevel hrst]
    | true => simp [step, sampleRst_held s hlevel hrst]
  | false =>
    cases hphase : s.phase with
    | idle => simp [step, sampleRst_released s hlevel, hphase]
    | busy =>
      cases hdec : decode s.cur with
      | command i => simp [step, sampleRst_released s hlevel, hphase, hdec]
      | illegal why => simp [step, sampleRst_released s hlevel, hphase, hdec]

/-- No step. -/
@[simp] theorem runSteps_zero (s : State) : runSteps 0 s = .next s := rfl

/-- One more step of a run. -/
theorem runSteps_succ (n : Nat) (s t : State) (h : step s = .next t) : runSteps (n + 1) s = runSteps n t := by
  have hcore : Host.Core.step Sys2Proof.core s = .next t := h
  simp only [runSteps, Host.Core.run, hcore]
  rfl

/-- A run ends at a fault. -/
theorem runSteps_fault (n : Nat) (s : State) (f : Fault) (h : step s = .fault f) :
    runSteps (n + 1) s = .fault f := by
  have hcore : Host.Core.step Sys2Proof.core s = .fault f := h
  simp only [runSteps, Host.Core.run, hcore]
  rfl

/-- A run ends at a refusal. -/
theorem runSteps_refused (n : Nat) (s : State) (f : Refusal) (h : step s = .refused f) :
    runSteps (n + 1) s = .refused f := by
  have hcore : Host.Core.step Sys2Proof.core s = .refused f := h
  simp only [runSteps, Host.Core.run, hcore]
  rfl

end Sys2Proof.Machine
end

