-- ==== Sys2Proof/Laws/PerInstr.lean ====
section
/-! SUPPORT. The statements made for every instruction, one lemma for each constructor. -/

namespace Sys2Proof.Laws

/-- The encoding of a well-formed instruction has the payload length its own word announces (R68). -/
def EncodedLength.Statement (i : Instr) : Prop :=
  i.wf = true → (encode i).payload.length = payloadLength (encode i).word

/-- A word without a frame announces no payload. -/
theorem EncodedLength.no_frame (op sel : BitVec 4) (imm : Byte)
    (h2 : fieldOp (packWord op sel imm) ≠ 0x2) (h3 : fieldOp (packWord op sel imm) ≠ 0x3) :
    payloadLength (packWord op sel imm) = 0 := by
  unfold payloadLength
  rw [if_neg (by rintro (h | h); exacts [h2 h, h3 h])]

/-- The selector of a frame that fits announces its length (R62). -/
theorem EncodedLength.frame_length (p : List Byte) (hp : frameFits p = true) :
    (lengthSel p).toNat + 1 = p.length := by
  simp only [frameFits, Config.maxFrame, decide_eq_true_eq] at hp
  simp only [lengthSel, BitVec.toNat_ofNat]
  omega

/-- The opcode of a packed word. -/
theorem EncodedLength.fieldOp_pack (op sel : BitVec 4) (imm : Byte) : fieldOp (packWord op sel imm) = op := by
  apply BitVec.eq_of_getLsbD_eq
  intro k hk
  simp only [fieldOp, packWord, BitVec.getLsbD_extractLsb', BitVec.getLsbD_append]
  have h1 : ¬ 12 + k < 8 := by omega
  have h2 : ¬ 12 + k - 8 < 4 := by omega
  simp [h1, h2, hk]
  congr 1
  exact Nat.add_sub_cancel_left 12 k

/-- The selector of a packed word. -/
theorem EncodedLength.fieldSel_pack (op sel : BitVec 4) (imm : Byte) :
    fieldSel (packWord op sel imm) = sel := by
  apply BitVec.eq_of_getLsbD_eq
  intro k hk
  simp only [fieldSel, packWord, BitVec.getLsbD_extractLsb', BitVec.getLsbD_append]
  have h1 : ¬ 8 + k < 8 := by omega
  simp [h1, hk]

theorem EncodedLength.revb (v : Byte) : EncodedLength.Statement (.revb v) := by
  intro _
  exact (no_frame _ _ _ (by simp [fieldOp_pack]) (by simp [fieldOp_pack])).symm

theorem EncodedLength.revbuf (p : List Byte) : EncodedLength.Statement (.revbuf p) := by
  intro hp
  simp [encode, payloadLength, fieldOp_pack, fieldSel_pack, frame_length p hp]

theorem EncodedLength.xchg (p : List Byte) : EncodedLength.Statement (.xchg p) := by
  intro hp
  simp [encode, payloadLength, fieldOp_pack, fieldSel_pack, frame_length p hp]

theorem EncodedLength.poll : EncodedLength.Statement .poll := by
  intro _
  exact (no_frame _ _ _ (by simp [fieldOp_pack]) (by simp [fieldOp_pack])).symm

theorem EncodedLength.btn (b : Button) : EncodedLength.Statement (.btn b) := by
  intro _
  exact (no_frame _ _ _ (by simp [fieldOp_pack]) (by simp [fieldOp_pack])).symm

theorem EncodedLength.btns : EncodedLength.Statement .btns := by
  intro _
  exact (no_frame _ _ _ (by simp [fieldOp_pack]) (by simp [fieldOp_pack])).symm

theorem EncodedLength.stick (a : Axis) : EncodedLength.Statement (.stick a) := by
  intro _
  exact (no_frame _ _ _ (by simp [fieldOp_pack]) (by simp [fieldOp_pack])).symm

theorem EncodedLength.btnButtons : EncodedLength.Statement .btnButtons := by
  intro _
  exact (no_frame _ _ _ (by simp [fieldOp_pack]) (by simp [fieldOp_pack])).symm

end Sys2Proof.Laws
end

