-- ==== Sys2Proof/Tests/Slice0.lean ====
section
/-! SUPPORT. Tests on single steps, and for every statement with hypotheses a state that meets them. Expected
values are those of `95_test_vectors.md` or worked by hand from the rule named. -/

namespace Sys2Proof.Tests

open Sys2Proof.Machine

/-! ### Helpers -/

/-- The next state of an outcome. -/
def nextState (o : Host.Outcome State Fault Refusal) : Option State :=
  match o with
  | .next t => some t
  | .fault _ => none
  | .refused _ => none

/-- The responses an outcome's next state has delivered. -/
def delivered (o : Host.Outcome State Fault Refusal) : Option (List Response) :=
  (nextState o).map (·.responses)

/-- The bus history an outcome's next state has. -/
def history (o : Host.Outcome State Fault Refusal) : Option (List Event) := (nextState o).map (·.bus)

/-- A connected block that holds a command, with a given snapshot. -/
def holding (snap : Vector Byte 6) (cmd : Command) : State :=
  { State.reset with connected := true, snap, phase := .busy, cur := cmd }

/-- An idle block with one command at its port, and the Transport's answers. -/
def presented (cmd : Command) (answers : List Answer) : State :=
  { State.reset with port := [cmd], answers }

/-- A block that has begun `XCHG 01,42` and done its first transfer, answered 0xFF, from reset. -/
def midExchange : State :=
  { State.reset with
    phase := .busy, cur := ⟨0x3100, [0x01, 0x42]⟩, stage := .framing, csN := .low, xidx := 1,
    txb := #v[0x80, 0x42, 0, 0, 0, 0, 0, 0, 0, 0, 0, 0, 0, 0, 0, 0],
    rxb := #v[0xFF, 0, 0, 0, 0, 0, 0, 0, 0, 0, 0, 0, 0, 0, 0, 0],
    bus := [.reset, .csAssert, .xfer 0x80 0xFF] }

/-- The same after its second transfer failed, select still asserted. -/
def afterFailure : State :=
  { midExchange with stage := .failing, bus := midExchange.bus ++ [.xferFail 0x42] }

/-- The answers of `95_test_vectors.md` P1, as wire bytes. -/
def wireAnswers : List Byte := [0xFF, 0x82, 0x5A, 0xF7, 0xFD, 0x01, 0xFE, 0x00, 0xFF]

/-- A block that has done all nine transfers of a POLL, its select frame closed. -/
def polled (marker : Byte) : State :=
  { State.reset with
    phase := .busy, cur := ⟨0x4000, []⟩, stage := .done, xidx := 9,
    rxb := #v[0xFF, 0x82, marker, 0xF7, 0xFD, 0x01, 0xFE, 0x00, 0xFF, 0, 0, 0, 0, 0, 0, 0],
    bus := [.reset, .csAssert, .xfer 0x80 0xFF, .xfer 0x42 0x82, .xfer 0x00 marker, .xfer 0x00 0xF7,
      .xfer 0x00 0xFD, .xfer 0x00 0x01, .xfer 0x00 0xFE, .xfer 0x00 0x00, .xfer 0x00 0xFF, .csDeassert] }

/-! ### Well-formedness refuses ill-formed terms -/

theorem test_wf_refuses_empty_revbuf : (Instr.revbuf []).wf = false := by decide
theorem test_wf_refuses_long_revbuf : (Instr.revbuf (List.replicate 17 0)).wf = false := by decide
theorem test_wf_refuses_empty_xchg : (Instr.xchg []).wf = false := by decide
theorem test_wf_refuses_long_xchg : (Instr.xchg (List.replicate 17 0)).wf = false := by decide
theorem test_wf_admits_longest_frames :
    (Instr.revbuf (List.replicate 16 0)).wf = true ∧ (Instr.xchg (List.replicate 16 0)).wf = true := by decide

/-! ### Decoding, the words written out bit by bit from R59 and R65 -/

theorem test_decode_revb : decode ⟨0b0001000001000001, []⟩ = .command (.revb 0x41) := by decide
theorem test_decode_revbuf :
    decode ⟨0b0010001000000000, [0x01, 0x42, 0x0F]⟩ = .command (.revbuf [0x01, 0x42, 0x0F]) := by decide
theorem test_decode_xchg : decode ⟨0b0011000100000000, [0x01, 0x42]⟩ = .command (.xchg [0x01, 0x42]) := by decide
theorem test_decode_poll : decode ⟨0b0100000000000000, []⟩ = .command .poll := by decide
theorem test_decode_btn : decode ⟨0b0101111000000000, []⟩ = .command (.btn .cross) := by decide
theorem test_decode_btns : decode ⟨0b0110000000000000, []⟩ = .command .btns := by decide
theorem test_decode_stick : decode ⟨0b0111001100000000, []⟩ = .command (.stick .rightY) := by decide
theorem test_decode_btn_buttons : decode (encode .btnButtons) = .command .btns := by decide

/-- `95_test_vectors.md` §3.6 and the encoding corners of §3.1 to §3.5. -/
theorem test_decode_rejects :
    decode ⟨0x0000, []⟩ = .illegal .reservedOpcode ∧ decode ⟨0x8000, []⟩ = .illegal .reservedOpcode ∧
    decode ⟨0xF0FF, []⟩ = .illegal .reservedOpcode ∧ decode ⟨0x4001, []⟩ = .illegal .nonzeroImm ∧
    decode ⟨0x4000, [0x00]⟩ = .illegal .payloadLength ∧ decode ⟨0x1000, [0x00]⟩ = .illegal .payloadLength ∧
    decode ⟨0x1100, []⟩ = .illegal .nonzeroSel ∧ decode ⟨0x2001, [0x01]⟩ = .illegal .nonzeroImm ∧
    decode ⟨0x2200, [0x01, 0x02]⟩ = .illegal .payloadLength ∧
    decode ⟨0x3100, [0x01, 0x02, 0x03]⟩ = .illegal .payloadLength ∧
    decode ⟨0x4100, []⟩ = .illegal .nonzeroSel ∧ decode ⟨0x5001, []⟩ = .illegal .nonzeroImm ∧
    decode ⟨0x6100, []⟩ = .illegal .nonzeroSel ∧ decode ⟨0x7400, []⟩ = .illegal .nonzeroSel ∧
    decode ⟨0x7800, []⟩ = .illegal .nonzeroSel ∧ decode ⟨0x7001, []⟩ = .illegal .nonzeroImm := by decide

/-- A row's word takes a payload of zeros of the length it announces. -/
theorem test_table_word_xchg : decodeTableWord 16 0x3100 = some (.xchg [0, 0]) := by decide

/-- The word placed for the fetch is run by the very next step. -/
theorem test_fetch_word_runs :
    delivered (step (State.reset.withFetchWord 16 0x1001)) = some [⟨.ok, 0x0080, []⟩] := by decide

/-- The first step of a placed exchange asserts select. -/
theorem test_fetch_word_begins_exchange :
    history (step (State.reset.withFetchWord 16 0x3000)) = some [.reset, .csAssert] := by decide

/-! ### The assembler (R70, R71) -/

theorem test_assemble_names : assemble "STICK LeftY" = some ⟨0x7100, []⟩ ∧
    assemble "BTN Start" = some ⟨0x5300, []⟩ := by decide
theorem test_assemble_pseudo : assemble "BTN Buttons" = some ⟨0x6000, []⟩ := by decide
theorem test_assemble_refuses : assemble "REVB 0x" = none ∧ assemble "POLL 1" = none ∧
    assemble "REVBUF 1,,2" = none := by decide

/-! ### REVB and REVBUF (`95_test_vectors.md` §3.1) -/

theorem test_revb : delivered (exec (.revb 0x73) State.reset) = some [⟨.ok, 0x00CE, []⟩] := by decide
theorem test_revbuf : delivered (exec (.revbuf [0x12, 0xA5, 0xC0]) State.reset) =
    some [⟨.ok, 0x0000, [0x48, 0xA5, 0x03]⟩] := by decide

/-! ### Queries (`95_test_vectors.md` §3.4 and §3.5) -/

theorem test_btn_pressed : delivered (exec (.btn .up) (holding #v[0xA5, 0x3C, 0, 0, 0, 0] ⟨0x5400, []⟩)) =
    some [⟨.ok, 0x0001, []⟩] := by decide
theorem test_btn_released : delivered (exec (.btn .circle) (holding #v[0xA5, 0x3C, 0, 0, 0, 0] ⟨0x5D00, []⟩)) =
    some [⟨.ok, 0x0000, []⟩] := by decide
theorem test_btns : delivered (exec .btns (holding #v[0xA5, 0x3C, 0, 0, 0, 0] ⟨0x6000, []⟩)) =
    some [⟨.ok, 0xC35A, []⟩] := by decide
theorem test_btn_buttons : delivered (exec .btnButtons (holding #v[0xF7, 0xBF, 0, 0, 0, 0] ⟨0x6000, []⟩)) =
    some [⟨.ok, 0x4008, []⟩] := by decide
theorem test_stick : delivered (exec (.stick .leftX)
    (holding #v[0, 0, 0x11, 0x22, 0x33, 0x44] ⟨0x7000, []⟩)) = some [⟨.ok, 0xFFB3, []⟩] := by decide
theorem test_stick_extremes :
    stickWord .rightX #v[0, 0, 0x00, 0, 0, 0] = 0xFF80 ∧ stickWord .rightX #v[0, 0, 0xFF, 0, 0, 0] = 0x007F ∧
    stickWord .rightX #v[0, 0, 0x7F, 0, 0, 0] = 0xFFFF ∧ stickWord .rightX #v[0, 0, 0x80, 0, 0, 0] = 0x0000 := by
  decide
theorem test_stick_disconnected : delivered (exec (.stick .leftX) State.reset) = some [⟨.ok, 0, []⟩] := by decide

/-! ### The exchange (`95_test_vectors.md` §3.2 and §3.3) -/

theorem test_transfer : history (exec (.xchg [0x01, 0x42]) { midExchange with answers := [.byte 0x82] }) =
    some [.reset, .csAssert, .xfer 0x80 0xFF, .xfer 0x42 0x82] := by decide
theorem test_failed_transfer : history (exec (.xchg [0x01, 0x42]) { midExchange with answers := [.fail] }) =
    some [.reset, .csAssert, .xfer 0x80 0xFF, .xferFail 0x42] := by decide
/-- A reset between the failed transfer and the deassertion: one `CsDeassert`, and no response. -/
theorem test_reset_after_failure : (nextState (step { afterFailure with rstIn := [true] })).map
    (fun t => (t.bus, t.responses)) =
    some ([.reset, .csAssert, .xfer 0x80 0xFF, .xferFail 0x42, .csDeassert, .reset], []) := by decide
theorem test_xchg_answers : delivered (exec (.xchg [0x01, 0x42])
      { midExchange with stage := .done, csN := .high, xidx := 2, rxb := midExchange.rxb.set 1 0x82 }) =
    some [⟨.ok, 0x0000, [0xFF, 0x41]⟩] := by decide
theorem test_poll_valid : (nextState (exec .poll (polled 0x5A))).map (fun t => (t.responses, t.snap, t.connected)) =
    some ([⟨.ok, 0x0001, []⟩], #v[0xEF, 0xBF, 0x80, 0x7F, 0x00, 0xFF], true) := by decide
theorem test_poll_invalid : (nextState (exec .poll (polled 0xA5))).map (fun t => (t.responses, t.connected)) =
    some ([⟨.ok, 0x0000, []⟩], false) := by decide
theorem test_reset_mid_exchange : history (step { midExchange with rstIn := [true] }) =
    some [.reset, .csAssert, .xfer 0x80 0xFF, .csDeassert, .reset] := by decide

/-! ### Witnesses: for each statement with hypotheses, a state that meets them -/

theorem witness_DecodeOfEncode : (Instr.revbuf [0x01]).wf = true ∧ Instr.btnButtons.wf = true := by decide

/-- One for each disjunct of R67, at a boundary of its range. -/
theorem witness_ReservedEncodingsOnlyRespond :
    (0x0000#16).toNat / 4096 = 0 ∧ 8 ≤ (0x8000#16).toNat / 4096 ∧
    ((0x1100#16).toNat / 4096 = 1 ∧ (0x1100#16).toNat / 256 % 16 ≠ 0) ∧
    ((0x4F00#16).toNat / 4096 = 4 ∧ (0x4F00#16).toNat / 256 % 16 ≠ 0) ∧
    ((0x6100#16).toNat / 4096 = 6 ∧ (0x6100#16).toNat / 256 % 16 ≠ 0) ∧
    ((0x7400#16).toNat / 4096 = 7 ∧ (0x7400#16).toNat / 256 % 16 / 4 ≠ 0) ∧
    (2 ≤ (0x2001#16).toNat / 4096 ∧ (0x2001#16).toNat % 256 ≠ 0) ∧
    ((0x3F00#16).toNat / 4096 = 3 ∧ (List.replicate 15 (0 : Byte)).length ≠ (0x3F00#16).toNat / 256 % 16 + 1) ∧
    ((0x1000#16).toNat / 4096 = 1 ∧ [(0 : Byte)].length ≠ 0) ∧
    (4 ≤ (0x7000#16).toNat / 4096 ∧ [(0 : Byte)].length ≠ 0) ∧
    (holding #v[0, 0, 0, 0, 0, 0] ⟨0x0000, []⟩).phase = .busy ∧
    rstNow (holding #v[0, 0, 0, 0, 0, 0] ⟨0x0000, []⟩) = false := by decide

/-- For each opcode with a statement of its malformed words: one that is not of the form. -/
theorem witness_IllegalUnless :
    ((0x1100#16).toNat / 4096 = 1 ∧ ¬((0x1100#16) &&& 0xFF00 = 0x1000)) ∧
    ((0x2001#16).toNat / 4096 = 2 ∧ ¬((0x2001#16) &&& 0xF0FF = 0x2000)) ∧
    ((0x5001#16).toNat / 4096 = 5 ∧ ¬((0x5001#16) &&& 0xF0FF = 0x5000)) ∧
    ((0x6100#16).toNat / 4096 = 6 ∧ ¬(0x6100#16 = 0x6000#16)) ∧
    ((0x7400#16).toNat / 4096 = 7 ∧ ¬((0x7400#16) &&& 0xFCFF = 0x7000)) := by decide

/-- The queries' two clauses: a connected state and one that is not. -/
theorem witness_queries : State.reset.connected = false ∧
    (holding #v[0, 0, 0, 0, 0, 0] ⟨0x6000, []⟩).connected = true ∧ exchangeFrame (.stick .rightY) = none ∧
    exchangeFrame (.revbuf []) = none := by decide

theorem witness_ExchangeBeginsBySelecting :
    exchangeFrame (.xchg [0x01]) = some [0x01] ∧ exchangeFrame .poll = some pollFrame ∧
    State.reset.stage = .entry := by decide

/-- The first position of a frame and the last of the longest one. -/
theorem witness_TransferStoresTheAnswer :
    (Instr.xchg (List.replicate 16 0x42)).wf = true ∧ midExchange.stage = .framing ∧
    { midExchange with xidx := 0 }.xidx < (List.replicate 16 (0x42 : Byte)).length ∧
    { midExchange with xidx := 15 }.xidx < (List.replicate 16 (0x42 : Byte)).length ∧
    { midExchange with answers := [.byte 0x82] }.answers = .byte 0x82 :: [] := by decide

theorem witness_FailedTransferEndsTheExchange :
    exchangeFrame (.xchg [0x01, 0x42]) = some [0x01, 0x42] ∧ midExchange.stage = .framing ∧
    midExchange.xidx < [(0x01 : Byte), 0x42].length ∧ midExchange.xferCanFail = true ∧
    { midExchange with answers := [.fail] }.answers = .fail :: [] := by decide

theorem witness_ExchangeEndsByDeselecting :
    exchangeFrame (.xchg [0x01]) = some [0x01] ∧ midExchange.stage = .framing ∧
    midExchange.xidx = [(0x01 : Byte)].length := by decide

/-- Both branches of the marker check, and the stage all of POLL's and XCHG's own last steps need. -/
theorem witness_PollValidatesAndExtracts :
    (polled 0x5A).stage = .done ∧ rev8 ((polled 0x5A).rxb.get 2) = 0x5A ∧ rev8 ((polled 0x00).rxb.get 2) ≠ 0x5A := by
  decide

/-- Both branches: RST levels to come, and none. -/
theorem witness_SilentTransportHoldsTheBlock :
    midExchange.stage = .framing ∧ midExchange.xidx < [(0x01 : Byte), 0x42].length ∧ midExchange.answers = [] ∧
    midExchange.rstIn = [] ∧ { midExchange with rstIn := [false] }.rstIn ≠ [] := by decide

theorem witness_XchgRunExchangesTheFrame :
    (presented ⟨0x3100, [0x01, 0x42]⟩ [.byte 0xFF, .byte 0x82]).phase = .idle ∧
    (presented ⟨0x3100, [0x01, 0x42]⟩ [.byte 0xFF, .byte 0x82]).rstIn = [] ∧
    decode ⟨0x3100, [0x01, 0x42]⟩ = .command (.xchg [0x01, 0x42]) ∧
    (presented ⟨0x3100, [0x01, 0x42]⟩ [.byte 0xFF, .byte 0x82]).answers =
      [(0xFF : Byte), 0x82].map Answer.byte ++ [] := by decide

/-- Both branches of a whole poll: a valid marker and an invalid one. -/
theorem witness_PollRunUpdatesTheSnapshot :
    wireAnswers.length = 9 ∧ rev8 (wireAnswers.getD 2 0) = 0x5A ∧ rev8 ((wireAnswers.set 2 0x00).getD 2 0) ≠ 0x5A ∧
    (presented ⟨0x4000, []⟩ (wireAnswers.map Answer.byte)).port = [⟨0x4000, []⟩] ∧
    (presented ⟨0x4000, []⟩ (wireAnswers.map Answer.byte)).answers = wireAnswers.map Answer.byte ++ [] := by decide

/-- A failure at the first position and one at the last. -/
theorem witness_FailedRunLeavesTheState :
    decode ⟨0x3100, [0x01, 0x42]⟩ = .command (.xchg [0x01, 0x42]) ∧
    ([] : List Byte).length < [(0x01 : Byte), 0x42].length ∧ [(0xFF : Byte)].length < [(0x01 : Byte), 0x42].length ∧
    (presented ⟨0x3100, [0x01, 0x42]⟩ [.fail]).answers = ([] : List Byte).map Answer.byte ++ .fail :: [] ∧
    (presented ⟨0x3100, [0x01, 0x42]⟩ [.byte 0xFF, .fail]).answers = [(0xFF : Byte)].map Answer.byte ++ .fail :: [] ∧
    (presented ⟨0x3100, [0x01, 0x42]⟩ [.fail]).xferCanFail = true := by decide

/-- A reset before the first transfer and one after the last, before select is deasserted. -/
theorem witness_ResetAbortsAnExchange :
    (presented ⟨0x3000, [0x01]⟩ []).phase = .idle ∧ decode ⟨0x3000, [0x01]⟩ = .command (.xchg [0x01]) ∧
    { presented ⟨0x3000, [0x01]⟩ [] with rstIn := [false, false, true] }.rstIn =
      List.replicate (([] : List Byte).length + 2) false ++ true :: [] ∧
    ([] : List Byte).length ≤ [(0x01 : Byte)].length ∧ [(0xFF : Byte)].length ≤ [(0x01 : Byte)].length := by decide

/-- A reset after a failure at the first position, and after one at the last. -/
theorem witness_ResetAfterAFailedTransfer :
    { presented ⟨0x3100, [0x01, 0x42]⟩ [.fail] with rstIn := [false, false, false, true] }.rstIn =
      List.replicate (([] : List Byte).length + 3) false ++ true :: [] ∧
    decode ⟨0x3100, [0x01, 0x42]⟩ = .command (.xchg [0x01, 0x42]) ∧
    ([] : List Byte).length < [(0x01 : Byte), 0x42].length ∧ [(0xFF : Byte)].length < [(0x01 : Byte), 0x42].length ∧
    (presented ⟨0x3100, [0x01, 0x42]⟩ [.fail]).answers = ([] : List Byte).map Answer.byte ++ .fail :: [] ∧
    (presented ⟨0x3100, [0x01, 0x42]⟩ [.fail]).xferCanFail = true := by decide

theorem witness_RepeatedPollIsIdempotent :
    { presented ⟨0x4000, []⟩ (wireAnswers.map Answer.byte ++ wireAnswers.map Answer.byte) with
      port := [⟨0x4000, []⟩, ⟨0x4000, []⟩] }.port = ⟨0x4000, []⟩ :: ⟨0x4000, []⟩ :: [] ∧
    wireAnswers.length = 9 ∧ rev8 (wireAnswers.getD 2 0) = 0x5A := by decide

theorem witness_StepRunsTheDecodedCommand :
    midExchange.phase = .busy ∧ rstNow midExchange = false ∧
    decode midExchange.cur = .command (.xchg [0x01, 0x42]) ∧ (Instr.xchg [0x01, 0x42]).wf = true := by decide

/-- Both branches: a command presented, and none. -/
theorem witness_IdleBlockAcceptsTheNextCommand :
    State.reset.phase = .idle ∧ rstNow State.reset = false ∧ State.reset.port = [] ∧
    (presented ⟨0x4000, []⟩ []).port = [⟨0x4000, []⟩] ∧ (presented ⟨0x4000, []⟩ []).phase = .idle := by decide

/-- Both levels of the select line. -/
theorem witness_ResetReturnsTheBlockToIdle :
    { midExchange with rstIn := [true] }.rstIn = true :: [] ∧ midExchange.rst = false ∧ midExchange.csN = .low ∧
    { State.reset with rstIn := [true] }.rst = false ∧ State.reset.csN = .high := by decide

theorem witness_HeldResetAcceptsNothing :
    { State.reset with rst := true, rstIn := [true, false] }.rstIn = true :: [false] ∧
    { State.reset with rst := true, rstIn := [true, false] }.rst = true := by decide

/-- The invariant holds in the middle of an exchange, with select asserted. -/
theorem witness_inv : Inv midExchange where
  framed := by decide
  selected := by decide
  idle := by decide
  held := by decide
  index := by decide
  exchange := fun _ => ⟨[0x01, 0x42], by decide, by decide, by decide, by decide, by decide⟩

/-- It holds there whatever the inputs to come. -/
theorem witness_inv_inputs (answers : List Answer) (rstIn : List Bool) : Inv { midExchange with answers, rstIn } :=
  ⟨witness_inv.framed, witness_inv.selected, witness_inv.idle, witness_inv.held, witness_inv.index,
    witness_inv.exchange⟩

/-- The invariant holds where every transfer is done and select still asserted. -/
theorem witness_inv_all_sent : Inv { midExchange with cur := ⟨0x3000, [0x01]⟩ } where
  framed := by decide
  selected := by decide
  idle := by decide
  held := by decide
  index := by decide
  exchange := fun _ => ⟨[0x01], by decide, by decide, by decide, by decide, by decide⟩

/-- The invariant holds in an idle block whose RST line is held asserted. -/
theorem witness_inv_idle : Inv { State.reset with rst := true } where
  framed := by decide
  selected := by decide
  idle := by decide
  held := by decide
  index := by decide
  exchange := fun h => absurd rfl h

/-- It holds where a POLL has made all its transfers, its marker valid. -/
theorem witness_inv_polled : Inv (polled 0x5A) where
  framed := by decide
  selected := by decide
  idle := by decide
  held := by decide
  index := by decide
  exchange := fun _ => ⟨pollFrame, by decide, by decide, by decide, by decide, by decide⟩

/-- It holds where a transfer of an XCHG has just failed. -/
theorem witness_inv_failing : Inv afterFailure where
  framed := by decide
  selected := by decide
  idle := by decide
  held := by decide
  index := by decide
  exchange := fun _ => ⟨[0x01, 0x42], by decide, by decide, by decide, by decide, by decide⟩

/-- It holds where a transfer of an XCHG has failed and select is deasserted. -/
theorem witness_inv_failed : Inv { midExchange with
    stage := .failed, csN := .high, bus := midExchange.bus ++ [.xferFail 0x42, .csDeassert] } where
  framed := by decide
  selected := by decide
  idle := by decide
  held := by decide
  index := by decide
  exchange := fun _ => ⟨[0x01, 0x42], by decide, by decide, by decide, by decide, by decide⟩

/-- It holds where a malformed command was accepted. -/
theorem witness_inv_malformed : Inv { State.reset with phase := .busy } where
  framed := by decide
  selected := by decide
  idle := by decide
  held := by decide
  index := by decide
  exchange := fun h => absurd rfl h

/-- A POLL after select is asserted, before its first transfer; its invariant holds. -/
theorem witness_PollTransmitsItsWireBytes : Inv { State.reset with
    phase := .busy, cur := ⟨0x4000, []⟩, stage := .framing, csN := .low,
    txb := #v[0x80, 0x42, 0, 0, 0, 0, 0, 0, 0, 0, 0, 0, 0, 0, 0, 0], bus := [.reset, .csAssert] } where
  framed := by decide
  selected := by decide
  idle := by decide
  held := by decide
  index := by decide
  exchange := fun _ => ⟨pollFrame, by decide, by decide, by decide, by decide, by decide⟩

/-- Each producer's step delivers its response: a malformed command, a failed exchange, a completed POLL. -/
theorem witness_StatusCodesAndTheirProducers :
    delivered (step { State.reset with phase := .busy }) = some [⟨.illegal, 0, []⟩] ∧
    delivered (step { midExchange with stage := .failed, csN := .high }) = some [⟨.xferErr, 0, []⟩] ∧
    delivered (step (polled 0x5A)) = some [⟨.ok, 1, []⟩] := by decide

/-- A block without a valid poll, at the end of its first one: the step answers a next state, and the record
then holds the poll's logical bytes. -/
theorem witness_SnapshotIsTheLastValidPolls : HoldsLastPoll none (polled 0x5A) where
  connected := rfl
  snap := by simp
  valid := by simp
  exchanged := by simp

theorem test_last_poll : lastPollAfter none (polled 0x5A) =
    some [0xFF, 0x41, 0x5A, 0xEF, 0xBF, 0x80, 0x7F, 0x00, 0xFF] ∧
    lastPollAfter none (polled 0x00) = none := by decide

/-- The status codes of R26's table. -/
theorem test_status_codes : Status.ok.code = 0b00 ∧ Status.illegal.code = 0b01 ∧ Status.xferErr.code = 0b10 ∧
    Status.ofCode 0b11 = none := by decide

/-- Steps that answer a next state: of an idle block, of an exchange that waits, transfers or is reset. -/
theorem witness_step_next :
    (nextState (step State.reset)).isSome = true ∧ (nextState (step midExchange)).isSome = false ∧
    (nextState (step { midExchange with answers := [.byte 0x82] })).isSome = true ∧
    (nextState (step { midExchange with rstIn := [true] })).isSome = true := by decide

theorem witness_ConnectedIsSticky :
    { State.reset with connected := true, rstIn := [true] }.connected = true ∧
    (nextState (step { State.reset with connected := true, rstIn := [true] })).map (·.connected) = some false := by
  decide

theorem witness_OnlyExchangesReachTheBus :
    rstNow { midExchange with answers := [.byte 0x82] } = false ∧
    history (step { midExchange with answers := [.byte 0x82] }) ≠ some midExchange.bus := by decide

/-- The three ways a select frame closes: after its last transfer, by a failure, by a reset. -/
theorem witness_SelectFramesAreWhole :
    midExchange.csN = .low ∧
    (nextState (step { midExchange with cur := ⟨0x3000, [0x01]⟩ })).map (·.csN) = some .high ∧
    afterFailure.csN = .low ∧ (nextState (step afterFailure)).map (·.csN) = some .high ∧
    (nextState (step { midExchange with rstIn := [true] })).map (·.csN) = some .high := by decide

theorem witness_OnlyTheTransportStopsTheBlock :
    step midExchange = .fault .transportSilent ∧
    step { midExchange with xferCanFail := false, answers := [.fail] } = .refused .failExcluded := ⟨rfl, rfl⟩

/-- Two states that differ in the snapshot and in a buffer. -/
theorem witness_UnspecifiedContentsAreUnobservable : Indistinguishable State.reset
    { State.reset with snap := Vector.replicate 6 0xFF, txb := Vector.replicate 16 0xFF, freeCtr := 7 } where
  connected := rfl
  csN := rfl
  phase := rfl
  stage := rfl
  xidx := rfl
  bus := rfl
  responses := rfl
  port := rfl
  answers := rfl
  rstIn := rfl
  rst := rfl
  xferCanFail := rfl
  snap := by decide
  cur := by decide
  txb := by decide
  rxb := by decide
  received := by decide

end Sys2Proof.Tests
end

/-! How a command ends and what can stop the block (`00_scope.md`): the response of R11, the stops of
R7 and R126, and the reversal ROM of R12. -/

namespace Sys2Proof.Machine

/-! ### The reversal ROM -/

/-- The listed contents of the ROM, entry by entry. -/
theorem revRows_entry : ∀ row col : Fin 16,
    (revRows.getD row []).getD col 0 = rev8 (BitVec.ofNat 8 (16 * row + col)) := by decide

/-- The high nibble of a byte picks the row of its entry and the low nibble the column. -/
theorem revTab_eq_rev8 (v : Byte) : revTab v = rev8 v := by
  have hrow : v.toNat / 16 < 16 := by omega
  have hcol : v.toNat % 16 < 16 := by omega
  have hentry := revRows_entry ⟨v.toNat / 16, hrow⟩ ⟨v.toNat % 16, hcol⟩
  simpa only [revTab, Nat.div_add_mod, BitVec.ofNat_toNat, BitVec.setWidth_eq] using hentry

/-- R12, bit by bit. -/
theorem rev8_getLsbD (v : Byte) (j : Nat) (hj : j < 8) : (rev8 v).getLsbD j = v.getLsbD (7 - j) := by
  unfold rev8
  simp only [BitVec.getLsbD_append]
  interval_cases j <;> simp

/-- Settles O9: the table entry by entry, and `rev8` bit by bit. -/
theorem revtabIsBitReversal : Obligations.RevtabIsBitReversal :=
  fun v => ⟨revTab_eq_rev8 v, rev8_getLsbD v⟩

/-! ### How a command goes on or ends -/

/-- A command that only responds ends as an exchange does, with nothing left open. -/
theorem RespondsOnly.endsExchange {s t : State} {r : Response} (h : RespondsOnly s t r) : EndsExchange s t r where
  responses := h.responses
  phase := h.phase
  stage := h.stage
  csN := h.csN
  xidx := h.xidx
  bus := h.bus
  port := h.port
  answers := h.answers
  rstIn := h.rstIn
  rst := h.rst
  xferCanFail := h.xferCanFail

theorem respond_respondsOnly (st : Status) (d : Word) (l : List Byte) (s : State) :
    RespondsOnly s (respond st d l s) ⟨st, d, l⟩ := by
  constructor <;> rfl

theorem raiseIllegal_respondsOnly (s : State) : RespondsOnly s (raiseIllegal s) ⟨.illegal, 0, []⟩ :=
  respond_respondsOnly .illegal 0 [] s

theorem raiseXferError_endsExchange (s : State) : EndsExchange s (raiseXferError s) ⟨.xferErr, 0, []⟩ := by
  constructor <;> simp

/-- POLL's last step ends the command whether or not the marker is valid (R88, R91). -/
theorem finishPoll_endsExchange (r : List Byte) (s : State) : ∃ x, EndsExchange s (finishPoll r s) x := by
  obtain ⟨-, hfinish⟩ | ⟨-, hfinish⟩ := finishPoll_cases r s <;> rw [hfinish]
  · exact ⟨⟨.ok, 1, []⟩, by constructor <;> rfl⟩
  · exact ⟨_, (respond_respondsOnly .ok 0 [] s).endsExchange⟩

theorem beginExchange_continues (p : List Byte) (s : State) : Continues s (beginExchange p s) := by
  constructor <;> rfl

theorem endExchange_continues (s : State) : Continues s (endExchange s) := by
  constructor <;> rfl

theorem abortExchange_continues (s : State) : Continues s (abortExchange s) := by
  constructor <;> rfl

/-- A transfer that answers a next state, completed, failed or awaited, does not end its command. -/
theorem transfer_continues {s t : State} (h : transfer s = .next t) : Continues s t := by
  obtain ⟨r, rest, -, hstep⟩ | ⟨rest, -, -, hstep⟩ | ⟨rest, -, -, hstep⟩ | ⟨-, -, hstep⟩ | ⟨-, -, hstep⟩ :=
    transfer_cases s <;> rw [hstep] at h <;> cases h <;> constructor <;> rfl

/-- The buffers are done with before the last step of an exchange, which leaves what it ends with as it was. -/
theorem EndsExchange.of_forgetBuffers {s t : State} {r : Response} (h : EndsExchange (forgetBuffers s) t r) :
    EndsExchange s t r :=
  { h with }

/-- One step of an exchange goes on with the command or ends it, where its last step ends it. -/
theorem exchangeStep_continues_or_ends {p : List Byte} {finish : List Byte → State → State} {s t : State}
    (hfinish : ∀ r u, ∃ x, EndsExchange u (finish r u) x) (h : exchangeStep p finish s = .next t) :
    Continues s t ∨ ∃ x, EndsExchange s t x := by
  obtain ⟨-, hstep⟩ | ⟨-, -, hstep⟩ | ⟨-, -, hstep⟩ | ⟨-, hstep⟩ | ⟨-, hstep⟩ | ⟨-, hstep⟩ :=
    exchangeStep_cases p finish s <;> rw [hstep] at h
  · cases h
    exact .inl (beginExchange_continues p s)
  · exact .inl (transfer_continues h)
  · cases h
    exact .inl (endExchange_continues s)
  · cases h
    exact .inl (abortExchange_continues s)
  · cases h
    obtain ⟨x, hx⟩ := hfinish (receivedFrame p.length s) (forgetBuffers s)
    exact .inr ⟨x, hx.of_forgetBuffers⟩
  · cases h
    exact .inr ⟨_, raiseXferError_endsExchange s⟩

/-- One step of any instruction goes on with the command or ends it with one response (R11). -/
theorem exec_continues_or_ends {i : Instr} {s t : State} (h : exec i s = .next t) :
    Continues s t ∨ ∃ x, EndsExchange s t x := by
  obtain ⟨-, d, l, hexec⟩ | ⟨p, -, hexec⟩ | ⟨-, hexec⟩ := exec_cases i s <;> rw [hexec] at h
  · cases h
    exact .inr ⟨_, (respond_respondsOnly .ok d l s).endsExchange⟩
  · exact exchangeStep_continues_or_ends (fun r u => ⟨_, (respond_respondsOnly .ok 0 r u).endsExchange⟩) h
  · exact exchangeStep_continues_or_ends finishPoll_endsExchange h

@[simp] theorem acceptNext_responses (s : State) : (acceptNext s).responses = s.responses := by
  obtain ⟨-, haccept⟩ | ⟨cmd, rest, -, haccept⟩ := acceptNext_cases s <;> rw [haccept]

/-- Settles O46: of the five kinds of step only a command's own last step and ILLEGAL respond, and of the others
only a reset takes a busy block to idle (R117). -/
theorem oneResponseEndsACommand : Obligations.OneResponseEndsACommand := by
  intro s t h
  obtain ⟨hlevel, hrst, hstep⟩ | ⟨-, -, hstep⟩ | ⟨-, hidle, hstep⟩ | ⟨hlevel, hbusy, i, -, hstep⟩ |
    ⟨hlevel, hbusy, -, hstep⟩ := step_cases s <;> rw [hstep] at h
  · cases h
    exact .inr ⟨rfl, fun _ _ => ⟨hrst, hlevel⟩⟩
  · cases h
    exact .inr ⟨rfl, fun hbusy hidle => by simp [hbusy] at hidle⟩
  · cases h
    exact .inr ⟨acceptNext_responses _, fun hbusy => by simp [hidle] at hbusy⟩
  · obtain hgoes | ⟨r, hends⟩ := exec_continues_or_ends h
    · exact .inr ⟨hgoes.responses, fun _ hidle => by simp [hgoes.phase, hbusy] at hidle⟩
    · exact .inl ⟨r, hends.responses, hbusy, hends.phase, hlevel⟩
  · cases h
    exact .inl ⟨_, raiseIllegal_responses _, hbusy, rfl, hlevel⟩

/-! ### What stops the block -/

/-- A transfer ends in the fault only where no input can ever move the block (R126). -/
theorem transfer_fault {s : State} {f : Fault} (h : transfer s = .fault f) : s.answers = [] ∧ s.rstIn = [] := by
  obtain ⟨r, rest, -, hstep⟩ | ⟨rest, -, -, hstep⟩ | ⟨rest, -, -, hstep⟩ | ⟨hans, hin, -⟩ | ⟨-, -, hstep⟩ :=
    transfer_cases s
  case inr.inr.inr.inl => exact ⟨hans, hin⟩
  all_goals rw [hstep] at h; cases h

/-- A transfer has no run only where the answer is the `FAIL` that R7 excludes. -/
theorem transfer_refused {s : State} {f : Refusal} (h : transfer s = .refused f) :
    f = .failExcluded ∧ s.xferCanFail = false ∧ ∃ rest, s.answers = .fail :: rest := by
  obtain ⟨r, rest, -, hstep⟩ | ⟨rest, -, -, hstep⟩ | ⟨rest, hans, hcan, hstep⟩ | ⟨-, -, hstep⟩ | ⟨-, -, hstep⟩ :=
    transfer_cases s <;> rw [hstep] at h <;> cases h
  exact ⟨rfl, hcan, rest, hans⟩

/-- A step of an exchange that answers no next state is a transfer. -/
theorem exchangeStep_stops {p : List Byte} {finish : List Byte → State → State} {s : State}
    (h : ∀ t, exchangeStep p finish s ≠ .next t) :
    s.stage = .framing ∧ s.xidx < p.length ∧ exchangeStep p finish s = transfer s := by
  obtain ⟨-, hstep⟩ | htransfer | ⟨-, -, hstep⟩ | ⟨-, hstep⟩ | ⟨-, hstep⟩ | ⟨-, hstep⟩ :=
    exchangeStep_cases p finish s
  case inr.inl => exact htransfer
  all_goals exact absurd hstep (h _)

/-- An instruction that answers no next state is at a transfer of the frame it exchanges. -/
theorem exec_stops {i : Instr} {s : State} (h : ∀ t, exec i s ≠ .next t) :
    s.stage = .framing ∧ (∃ p, exchangeFrame i = some p ∧ s.xidx < p.length) ∧ exec i s = transfer s := by
  obtain ⟨-, d, l, hexec⟩ | ⟨p, rfl, hexec⟩ | ⟨rfl, hexec⟩ := exec_cases i s
  · exact absurd hexec (h _)
  · obtain ⟨hstage, hidx, htransfer⟩ := exchangeStep_stops (hexec ▸ h)
    exact ⟨hstage, ⟨p, rfl, hidx⟩, hexec.trans htransfer⟩
  · obtain ⟨hstage, hidx, htransfer⟩ := exchangeStep_stops (hexec ▸ h)
    exact ⟨hstage, ⟨pollFrame, rfl, hidx⟩, hexec.trans htransfer⟩

/-- The frame of a command that decodes is that of its instruction. -/
theorem commandFrame_of_decode {cmd : Command} {i : Instr} (h : decode cmd = .command i) :
    commandFrame cmd = exchangeFrame i := by
  simp [commandFrame, h]

/-- A step that answers no next state is a transfer of the exchange under way, RST's level sampled. -/
theorem step_stops {s : State} (h : ∀ t, step s ≠ .next t) :
    s.phase = .busy ∧ s.stage = .framing ∧ (∃ p, commandFrame s.cur = some p ∧ s.xidx < p.length) ∧
      step s = transfer { s with rstIn := s.rstIn.tail, rst := false } := by
  obtain ⟨-, -, hstep⟩ | ⟨-, -, hstep⟩ | ⟨-, -, hstep⟩ | ⟨-, hbusy, i, hdec, hstep⟩ | ⟨-, -, -, hstep⟩ :=
    step_cases s
  case inr.inr.inr.inl =>
    obtain ⟨hstage, hframe, htransfer⟩ := exec_stops (hstep ▸ h)
    exact ⟨hbusy, hstage, commandFrame_of_decode hdec ▸ hframe, hstep.trans htransfer⟩
  all_goals exact absurd hstep (h _)

/-- Settles O52: a step that answers no next state is a transfer, and a transfer stops for its answer alone. -/
theorem onlyTheTransportStopsTheBlock : Obligations.OnlyTheTransportStopsTheBlock := by
  intro s
  constructor
  · intro f hfault
    obtain ⟨hbusy, hstage, hframe, hstep⟩ := step_stops (s := s) (by simp [hfault])
    obtain ⟨hans, hin⟩ := transfer_fault (hstep.symm.trans hfault)
    exact ⟨hbusy, hstage, hans, hin, hframe⟩
  · intro f hrefused
    obtain ⟨hbusy, hstage, -, hstep⟩ := step_stops (s := s) (by simp [hrefused])
    obtain ⟨hf, hcan, hans⟩ := transfer_refused (hstep.symm.trans hrefused)
    exact ⟨hf, hbusy, hstage, hcan, hans⟩

end Sys2Proof.Machine

/-! What one step can do, said once (R80, R86, R115): the moves of a block whose RST is not asserted, and the
facts about frames and buffers that the whole-machine statements use. -/

namespace Sys2Proof.Machine

/-! ### The frame a command exchanges -/

/-- Whatever a check passes on, the check held. -/
theorem require_eq_command {ok : Bool} {why : Reject} {rest : Decoded} {i : Instr} :
    Decoded.require ok why rest = .command i ↔ ok = true ∧ rest = .command i := by
  cases ok <;> simp [Decoded.require]

/-- A frame whose length is a selector plus one fits (R62). -/
theorem frameFits_of_sel {p : List Byte} {sel : BitVec 4} (h : p.length = sel.toNat + 1) : frameFits p = true := by
  have hsel := sel.isLt
  simp only [frameFits, Config.maxFrame, decide_eq_true_eq]
  omega

/-- What decodes is well-formed. -/
theorem decode_wf {cmd : Command} {i : Instr} (h : decode cmd = .command i) : i.wf = true := by
  unfold decode at h
  split at h <;> simp only [require_eq_command, Decoded.command.injEq, beq_iff_eq, reduceCtorEq] at h
  case h_2 | h_3 =>
    obtain ⟨-, hlen, rfl⟩ := h
    exact frameFits_of_sel hlen
  case h_1 | h_5 =>
    obtain ⟨-, -, rfl⟩ := h
    rfl
  case h_4 | h_6 | h_7 =>
    obtain ⟨-, -, -, rfl⟩ := h
    rfl

@[simp] theorem pollFrame_length : pollFrame.length = 9 := rfl

/-- The frame of a well-formed instruction has at most 16 bytes (R6). -/
theorem exchangeFrame_length_le {i : Instr} {p : List Byte} (hwf : i.wf = true) (h : exchangeFrame i = some p) :
    p.length ≤ 16 := by
  cases i <;> simp only [exchangeFrame, Option.some.injEq, reduceCtorEq] at h
  case xchg q =>
    subst h
    simp only [Instr.wf, frameFits, Config.maxFrame, decide_eq_true_eq] at hwf
    exact hwf.2
  case poll => simp [← h]

/-- A malformed command exchanges no frame (R101). -/
theorem commandFrame_of_illegal {cmd : Command} {why : Reject} (h : decode cmd = .illegal why) :
    commandFrame cmd = none := by
  simp [commandFrame, h]

/-- Only a command that decodes exchanges a frame. -/
theorem decode_of_frame {cmd : Command} {p : List Byte} (h : commandFrame cmd = some p) :
    ∃ i, decode cmd = .command i := by
  cases hdec : decode cmd with
  | command i => exact ⟨i, rfl⟩
  | illegal why => simp [commandFrame_of_illegal hdec] at h

/-- An accepted command's frame has at most 16 bytes (R6, R62). -/
theorem commandFrame_length_le {cmd : Command} {p : List Byte} (h : commandFrame cmd = some p) : p.length ≤ 16 := by
  obtain ⟨i, hdec⟩ := decode_of_frame h
  exact exchangeFrame_length_le (decode_wf hdec) (commandFrame_of_decode hdec ▸ h)

/-! ### One step -/

/-- What a block whose RST is not asserted does in one step, by its phase and its position in the exchange. -/
inductive Move (s : State) : State → Prop where
  | idles (hphase : s.phase = .idle) (hport : s.port = []) : Move s s
  | accepts {cmd : Command} {rest : List Command} (hphase : s.phase = .idle) (hport : s.port = cmd :: rest) :
      Move s { s with port := rest, phase := .busy, cur := cmd, stage := .entry }
  | rejects {why : Reject} (hphase : s.phase = .busy) (hdec : decode s.cur = .illegal why) :
      Move s (raiseIllegal s)
  | answers {i : Instr} {d : Word} {l : List Byte} (hphase : s.phase = .busy) (hdec : decode s.cur = .command i)
      (hframe : commandFrame s.cur = none) : Move s (respond .ok d l s)
  | selects {p : List Byte} (hphase : s.phase = .busy) (hframe : commandFrame s.cur = some p)
      (hstage : s.stage = .entry) : Move s (beginExchange p s)
  | transfers {p : List Byte} {r : Byte} {rest : List Answer} (hphase : s.phase = .busy)
      (hframe : commandFrame s.cur = some p) (hstage : s.stage = .framing) (hidx : s.xidx < p.length)
      (hans : s.answers = .byte r :: rest) : Move s (recordTransfer r { s with answers := rest })
  | fails {p : List Byte} {rest : List Answer} (hphase : s.phase = .busy)
      (hframe : commandFrame s.cur = some p) (hstage : s.stage = .framing) (hidx : s.xidx < p.length)
      (hans : s.answers = .fail :: rest) (hcan : s.xferCanFail = true) :
      Move s (failTransfer { s with answers := rest })
  | waits {p : List Byte} (hphase : s.phase = .busy) (hframe : commandFrame s.cur = some p)
      (hstage : s.stage = .framing) (hidx : s.xidx < p.length) (hans : s.answers = []) : Move s s
  | deselects {p : List Byte} (hphase : s.phase = .busy) (hframe : commandFrame s.cur = some p)
      (hstage : s.stage = .framing) (hidx : p.length ≤ s.xidx) : Move s (endExchange s)
  | aborts {p : List Byte} (hphase : s.phase = .busy) (hframe : commandFrame s.cur = some p)
      (hstage : s.stage = .failing) : Move s (abortExchange s)
  | reports {p : List Byte} (hphase : s.phase = .busy) (hframe : commandFrame s.cur = some p)
      (hstage : s.stage = .failed) : Move s (raiseXferError s)
  | returns {p : List Byte} (hphase : s.phase = .busy) (hdec : decode s.cur = .command (.xchg p))
      (hstage : s.stage = .done) : Move s (respond .ok 0 (receivedFrame p.length s) (forgetBuffers s))
  | stores (hphase : s.phase = .busy) (hdec : decode s.cur = .command .poll) (hstage : s.stage = .done)
      (hmarker : markerValid (receivedFrame 9 s) = true) :
      Move s (respond .ok 1 [] (storeSnapshot (receivedFrame 9 s) (forgetBuffers s)))
  | discards (hphase : s.phase = .busy) (hdec : decode s.cur = .command .poll) (hstage : s.stage = .done)
      (hmarker : markerValid (receivedFrame 9 s) = false) : Move s (respond .ok 0 [] (forgetBuffers s))

/-! #### A transfer, case by case -/

theorem transfer_of_byte {s : State} {r : Byte} {rest : List Answer} (hans : s.answers = .byte r :: rest) :
    transfer s = .next (recordTransfer r { s with answers := rest }) := by
  simp [transfer, hans]

theorem transfer_of_fail {s : State} {rest : List Answer} (hans : s.answers = .fail :: rest)
    (hcan : s.xferCanFail = true) : transfer s = .next (failTransfer { s with answers := rest }) := by
  simp [transfer, hans, hcan]

theorem transfer_of_excluded_fail {s : State} {rest : List Answer} (hans : s.answers = .fail :: rest)
    (hcan : s.xferCanFail = false) : transfer s = .refused .failExcluded := by
  simp [transfer, hans, hcan]

theorem transfer_of_silence {s : State} (hans : s.answers = []) (hin : s.rstIn = []) :
    transfer s = .fault .transportSilent := by
  simp [transfer, hans, hin]

theorem transfer_of_wait {s : State} (hans : s.answers = []) (hin : s.rstIn ≠ []) : transfer s = .next s := by
  simp [transfer, hans, hin]

/-- A transfer that answers a next state completes, fails or waits. -/
theorem Move.of_transfer {s t : State} {p : List Byte} (hphase : s.phase = .busy)
    (hframe : commandFrame s.cur = some p) (hstage : s.stage = .framing) (hidx : s.xidx < p.length)
    (h : transfer s = .next t) : Move s t := by
  obtain ⟨r, rest, hans, htransfer⟩ | ⟨rest, hans, hcan, htransfer⟩ | ⟨rest, -, -, htransfer⟩ |
    ⟨-, -, htransfer⟩ | ⟨hans, -, htransfer⟩ := transfer_cases s <;> rw [htransfer] at h <;> cases h
  · exact .transfers hphase hframe hstage hidx hans
  · exact .fails hphase hframe hstage hidx hans hcan
  · exact .waits hphase hframe hstage hidx hans

/-- A step of an exchange is a move, where the command's own last step is. -/
theorem Move.of_exchangeStep {s t : State} {p : List Byte} {finish : List Byte → State → State}
    (hphase : s.phase = .busy) (hframe : commandFrame s.cur = some p)
    (hfinish : s.stage = .done → Move s (finish (receivedFrame p.length s) (forgetBuffers s)))
    (h : exchangeStep p finish s = .next t) : Move s t := by
  obtain ⟨hstage, hstep⟩ | ⟨hstage, hidx, hstep⟩ | ⟨hstage, hidx, hstep⟩ | ⟨hstage, hstep⟩ | ⟨hstage, hstep⟩ |
    ⟨hstage, hstep⟩ := exchangeStep_cases p finish s <;> rw [hstep] at h
  · cases h
    exact .selects hphase hframe hstage
  · exact .of_transfer hphase hframe hstage hidx h
  · cases h
    exact .deselects hphase hframe hstage hidx
  · cases h
    exact .aborts hphase hframe hstage
  · cases h
    exact hfinish hstage
  · cases h
    exact .reports hphase hframe hstage

/-- POLL's own last step stores or discards, by the marker. -/
theorem Move.of_finishPoll {s : State} (hphase : s.phase = .busy) (hdec : decode s.cur = .command .poll)
    (hstage : s.stage = .done) : Move s (finishPoll (receivedFrame 9 s) (forgetBuffers s)) := by
  obtain ⟨hmarker, hfinish⟩ | ⟨hmarker, hfinish⟩ := finishPoll_cases (receivedFrame 9 s) (forgetBuffers s) <;>
    rw [hfinish]
  · exact .stores hphase hdec hstage hmarker
  · exact .discards hphase hdec hstage hmarker

/-- The meaning of a decoded command answers next states that are moves. -/
theorem Move.of_exec {s t : State} {i : Instr} (hphase : s.phase = .busy) (hdec : decode s.cur = .command i)
    (h : exec i s = .next t) : Move s t := by
  have hframe := commandFrame_of_decode hdec
  obtain ⟨hnone, d, l, hexec⟩ | ⟨p, rfl, hexec⟩ | ⟨rfl, hexec⟩ := exec_cases i s <;> rw [hexec] at h
  · cases h
    exact .answers hphase hdec (hframe.trans hnone)
  · exact .of_exchangeStep hphase hframe (fun hstage => .returns hphase hdec hstage) h
  · exact .of_exchangeStep hphase hframe (fun hstage => .of_finishPoll hphase hdec hstage) h

/-! #### The step, case by case -/

theorem step_of_asserted {s : State} (hlevel : rstNow s = true) (hrst : s.rst = false) :
    step s = .next (applyReset { s with rstIn := s.rstIn.tail, rst := true }) := by
  simp [step, sampleRst_asserted s hlevel hrst]

theorem step_of_held {s : State} (hlevel : rstNow s = true) (hrst : s.rst = true) :
    step s = .next { s with rstIn := s.rstIn.tail, rst := true } := by
  simp [step, sampleRst_held s hlevel hrst]

theorem step_of_idle {s : State} (hlevel : rstNow s = false) (hphase : s.phase = .idle) :
    step s = .next (acceptNext { s with rstIn := s.rstIn.tail, rst := false }) := by
  simp [step, sampleRst_released s hlevel, hphase]

theorem step_of_command {s : State} {i : Instr} (hlevel : rstNow s = false) (hphase : s.phase = .busy)
    (hdec : decode s.cur = .command i) : step s = exec i { s with rstIn := s.rstIn.tail, rst := false } := by
  simp [step, sampleRst_released s hlevel, hphase, hdec]

theorem step_of_illegal {s : State} {why : Reject} (hlevel : rstNow s = false) (hphase : s.phase = .busy)
    (hdec : decode s.cur = .illegal why) :
    step s = .next (raiseIllegal { s with rstIn := s.rstIn.tail, rst := false }) := by
  simp [step, sampleRst_released s hlevel, hphase, hdec]

/-- Everything a step that answers a next state can do: a reset, nothing while RST is held, or a move of the
block on the state RST's sampling leaves. -/
theorem step_next_cases {s t : State} (h : step s = .next t) :
    (rstNow s = true ∧ s.rst = false ∧ t = applyReset { s with rstIn := s.rstIn.tail, rst := true }) ∨
    (rstNow s = true ∧ s.rst = true ∧ t = { s with rstIn := s.rstIn.tail, rst := true }) ∨
    (rstNow s = false ∧ Move { s with rstIn := s.rstIn.tail, rst := false } t) := by
  obtain ⟨hlevel, hrst, hstep⟩ | ⟨hlevel, hrst, hstep⟩ | ⟨hlevel, hidle, hstep⟩ | ⟨hlevel, hbusy, i, hdec, hstep⟩ |
    ⟨hlevel, hbusy, ⟨why, hdec⟩, hstep⟩ := step_cases s <;> rw [hstep] at h
  · cases h
    exact .inl ⟨hlevel, hrst, rfl⟩
  · cases h
    exact .inr (.inl ⟨hlevel, hrst, rfl⟩)
  · cases h
    refine .inr (.inr ⟨hlevel, ?_⟩)
    obtain ⟨hport, haccept⟩ | ⟨cmd, rest, hport, haccept⟩ :=
      acceptNext_cases { s with rstIn := s.rstIn.tail, rst := false } <;> rw [haccept]
    · exact .idles hidle hport
    · exact .accepts hidle hport
  · exact .inr (.inr ⟨hlevel, .of_exec hbusy hdec h⟩)
  · cases h
    exact .inr (.inr ⟨hlevel, .rejects hbusy hdec⟩)

end Sys2Proof.Machine

namespace Sys2Proof.Machine

/-! ### The bytes and events of an exchange -/

/-- `rev8` undoes itself (R76). -/
@[simp] theorem rev8_rev8 (v : Byte) : rev8 (rev8 v) = v := by
  apply BitVec.eq_of_getLsbD_eq
  intro j hj
  rw [rev8_getLsbD _ j hj, rev8_getLsbD _ (7 - j) (by omega)]
  congr 1
  omega

theorem reverseBits_eq_rev8 : reverseBits = rev8 := funext revTab_eq_rev8

theorem receivedFrame_eq_map (n : Nat) (s : State) : receivedFrame n s = (s.rxb.toList.take n).map rev8 := by
  rw [receivedFrame, reverseBuffer, reverseBits_eq_rev8]

/-- While the transmit buffer holds the frame, the next transfer sends the wire byte of its position (R82). -/
theorem outByte_eq_rev8 {p : List Byte} {s : State} (htxb : s.txb.toList.take p.length = p.map rev8)
    (hidx : s.xidx < p.length) : outByte s = rev8 (p.getD s.xidx 0) := by
  have hentry : s.txb.toList[s.xidx]? = some (rev8 p[s.xidx]) := by
    rw [← List.getElem?_take_of_lt hidx, htxb]
    simp [hidx]
  simp [outByte, List.getD_eq_getElem?_getD, hentry, hidx]

/-- A completed transfer adds its event to those of the exchange so far. -/
theorem exchangeSoFar_recordTransfer {p : List Byte} {s : State} (r : Byte) (hidx : s.xidx < p.length)
    (hp : p.length ≤ 16) :
    exchangeSoFar p (recordTransfer r s) = exchangeSoFar p s ++ [.xfer (rev8 (p.getD s.xidx 0)) r] := by
  have hpos : s.xidx < 16 := by omega
  have htake : p.take (s.xidx + 1) = p.take s.xidx ++ [p.getD s.xidx 0] := by
    rw [List.getD_eq_getElem _ _ hidx, List.take_append_getElem hidx]
  simp only [exchangeSoFar, recordTransfer_xidx, recordTransfer_rxb, take_succ_setIfInBounds _ _ _ hpos, htake]
  rw [transferEvents_append _ _ _ _ (by simp; omega)]
  rfl

/-- The in-bytes of a whole frame's transfers. -/
theorem inBytes_transferEvents {p rs : List Byte} (h : rs.length ≤ p.length) :
    inBytes (transferEvents p rs) = rs := by
  induction p generalizing rs with
  | nil => simp_all [transferEvents, inBytes]
  | cons v p ih =>
    cases rs with
    | nil => rfl
    | cons r rs => simpa [transferEvents, inBytes] using ih (by simpa using h)

/-! ### What the invariant says at each position -/

/-- A state that differs in nothing the invariant reads, and runs no command while RST is held, has it. -/
theorem Inv.sampled {s : State} (h : Inv s) (levels : List Bool) (level : Bool)
    (hheld : level = true → s.phase = .idle) : Inv { s with rstIn := levels, rst := level } :=
  { h with held := hheld }

/-- Outside an exchange no select frame is open and select is deasserted (R25, R83). -/
theorem Inv.outside {s : State} (h : Inv s) (hframing : s.stage ≠ .framing) (hfailing : s.stage ≠ .failing) :
    busFrame s.bus = some .closed ∧ s.csN = .high := by
  constructor
  · have hframed := h.framed
    cases hstage : s.stage <;> simp_all
  · cases hcs : s.csN with
    | high => rfl
    | low => exact (h.selected.mp hcs).elim (absurd · hframing) (absurd · hfailing)

/-- A command that exchanges no frame is inside no exchange (R50). -/
theorem Inv.entry_of_no_frame {s : State} (h : Inv s) (hframe : commandFrame s.cur = none) : s.stage = .entry := by
  by_contra hstage
  obtain ⟨p, hp, -⟩ := h.exchange hstage
  simp [hframe] at hp

end Sys2Proof.Machine

/-! Every step keeps the invariant (V1, V2 of `95_test_vectors.md`). -/

namespace Sys2Proof.Machine

/-! ### Inside an exchange -/

section
variable {s : State} {p : List Byte}

theorem Inv.framing (h : Inv s) (hframe : commandFrame s.cur = some p) (hstage : s.stage = .framing) :
    s.xidx ≤ p.length ∧ s.txb.toList.take p.length = p.map rev8 ∧ exchangeSoFar p s <:+ s.bus := by
  obtain ⟨q, hq, hframing, -, -, -⟩ := h.exchange (by simp [hstage])
  obtain rfl : q = p := by simpa [hframe] using hq.symm
  exact hframing hstage

theorem Inv.failing (h : Inv s) (hframe : commandFrame s.cur = some p) (hstage : s.stage = .failing) :
    s.xidx < p.length ∧ s.txb.toList.take p.length = p.map rev8 ∧ s.xferCanFail = true ∧
      exchangeSoFar p s ++ [.xferFail (rev8 (p.getD s.xidx 0))] <:+ s.bus := by
  obtain ⟨q, hq, -, hfailing, -, -⟩ := h.exchange (by simp [hstage])
  obtain rfl : q = p := by simpa [hframe] using hq.symm
  exact hfailing hstage

theorem Inv.done (h : Inv s) (hframe : commandFrame s.cur = some p) (hstage : s.stage = .done) :
    s.xidx = p.length ∧ exchangeSoFar p s ++ [.csDeassert] <:+ s.bus := by
  obtain ⟨q, hq, -, -, hdone, -⟩ := h.exchange (by simp [hstage])
  obtain rfl : q = p := by simpa [hframe] using hq.symm
  exact hdone hstage

theorem Inv.failed (h : Inv s) (hframe : commandFrame s.cur = some p) (hstage : s.stage = .failed) :
    s.xidx < p.length ∧ s.xferCanFail = true ∧
      exchangeSoFar p s ++ [.xferFail (rev8 (p.getD s.xidx 0)), .csDeassert] <:+ s.bus := by
  obtain ⟨q, hq, -, -, -, hfailed⟩ := h.exchange (by simp [hstage])
  obtain rfl : q = p := by simpa [hframe] using hq.symm
  exact hfailed hstage

end

/-! ### Each move keeps the invariant -/

/-- A whole stretch of further events in a history. -/
theorem busFrame_append (l m : List Event) :
    busFrame (l ++ m) = m.foldl (fun f e => f.bind fun g => g.after e) (busFrame l) := by
  simp [busFrame]

/-- The events of a reset close the select frame that is open, if one is (R116). -/
theorem Inv.busFrame_resetEvents {s : State} (h : Inv s) : busFrame (s.bus ++ resetEvents s.csN) = some .closed := by
  have hframed := h.framed
  cases hcs : s.csN with
  | low => obtain hstage | hstage := h.selected.mp hcs <;>
      simp [busFrame_append, resetEvents, hframed, hstage, Frame.after]
  | high =>
    obtain ⟨hclosed, -⟩ := h.outside (fun hstage => by simp [h.selected.mpr (.inl hstage)] at hcs)
      (fun hstage => by simp [h.selected.mpr (.inr hstage)] at hcs)
    simp [busFrame_append, resetEvents, hclosed, Frame.after]

/-- Asserting RST in any state with the invariant leads to one with it (R116). -/
theorem Inv.applyReset {s : State} (h : Inv s) (levels : List Bool) :
    Inv (applyReset { s with rstIn := levels, rst := true }) where
  framed := h.busFrame_resetEvents
  selected := by simp
  idle := by simp
  held := by simp
  index := by simp
  exchange := by simp

/-- A command that ends leaves the block idle, outside any exchange. -/
theorem Inv.of_ends {s t : State} {r : Response} (h : Inv s) (hends : EndsExchange s t r)
    (hframing : s.stage ≠ .framing) (hfailing : s.stage ≠ .failing) (hrst : s.rst = false) : Inv t where
  framed := by simp [hends.bus, hends.stage, (h.outside hframing hfailing).1]
  selected := by simp [hends.csN, hends.stage, (h.outside hframing hfailing).2]
  idle := fun _ => hends.stage
  held := by simp [hends.rst, hrst]
  index := hends.xidx ▸ h.index
  exchange := fun hstage => absurd hends.stage hstage

section
variable {s : State} {p : List Byte}

theorem Inv.accepts {cmd : Command} {rest : List Command} (h : Inv s) (hphase : s.phase = .idle)
    (hrst : s.rst = false) : Inv { s with port := rest, phase := .busy, cur := cmd, stage := .entry } where
  framed := by simpa [h.idle hphase] using h.framed
  selected := by simpa [h.idle hphase] using h.selected
  idle := fun _ => rfl
  held := by simp [hrst]
  index := h.index
  exchange := fun hstage => absurd rfl hstage

/-- The first step of an exchange opens its select frame and loads the frame's wire bytes (R80 steps 1 and 2). -/
theorem Inv.beginExchange (h : Inv s) (hframe : commandFrame s.cur = some p) (hphase : s.phase = .busy)
    (hstage : s.stage = .entry) (hrst : s.rst = false) : Inv (beginExchange p s) where
  framed := by simp [busFrame_append_singleton, h.framed, hstage, Frame.after]
  selected := by simp
  idle := by simp [hphase]
  held := by simp [hrst]
  index := by simp
  exchange := fun _ => by
    refine ⟨p, hframe, fun _ => ⟨by simp, ?_, ?_⟩, by simp, by simp, by simp⟩
    · rw [beginExchange_txb, loadTxb_take p s.txb (commandFrame_length_le hframe), reverseBits_eq_rev8]
    · simp [exchangeSoFar, transferEvents]

/-- A completed transfer is recorded at its position with the wire byte of the frame's byte (R80 step 3, R82). -/
theorem Inv.recordTransfer (h : Inv s) (hframe : commandFrame s.cur = some p) (hphase : s.phase = .busy)
    (hstage : s.stage = .framing) (hidx : s.xidx < p.length) (hrst : s.rst = false) (r : Byte) :
    Inv (recordTransfer r s) := by
  obtain ⟨-, htxb, hbus⟩ := h.framing hframe hstage
  have hp := commandFrame_length_le hframe
  exact {
    framed := by simp [busFrame_append_singleton, h.framed, hstage, Frame.after]
    selected := h.selected
    idle := by simp [hphase]
    held := by simp [hrst]
    index := by simp only [recordTransfer_xidx]; omega
    exchange := fun _ => by
      refine ⟨p, hframe, fun _ => ⟨hidx, htxb, ?_⟩, by simp [hstage], by simp [hstage], by simp [hstage]⟩
      rw [exchangeSoFar_recordTransfer r hidx hp, recordTransfer_bus, outByte_eq_rev8 htxb hidx]
      exact List.suffix_append_self_iff.mpr hbus }

/-- A failed transfer is the last event of the open frame (R84). -/
theorem Inv.failTransfer (h : Inv s) (hframe : commandFrame s.cur = some p) (hphase : s.phase = .busy)
    (hstage : s.stage = .framing) (hidx : s.xidx < p.length) (hcan : s.xferCanFail = true) (hrst : s.rst = false) :
    Inv (failTransfer s) := by
  obtain ⟨-, htxb, hbus⟩ := h.framing hframe hstage
  exact {
    framed := by simp [busFrame_append_singleton, h.framed, hstage, Frame.after]
    selected := by simp [h.selected, hstage]
    idle := by simp [hphase]
    held := by simp [hrst]
    index := h.index
    exchange := fun _ => by
      refine ⟨p, hframe, by simp, fun _ => ⟨hidx, htxb, hcan, ?_⟩, by simp, by simp⟩
      rw [failTransfer_bus, outByte_eq_rev8 htxb hidx]
      exact List.suffix_append_self_iff.mpr hbus }

/-- The deassertion after the last transfer closes a frame of `N` transfers (R80 step 4, R83). -/
theorem Inv.endExchange (h : Inv s) (hframe : commandFrame s.cur = some p) (hphase : s.phase = .busy)
    (hstage : s.stage = .framing) (hidx : p.length ≤ s.xidx) (hrst : s.rst = false) : Inv (endExchange s) := by
  obtain ⟨hle, -, hbus⟩ := h.framing hframe hstage
  exact {
    framed := by simp [busFrame_append_singleton, h.framed, hstage, Frame.after]
    selected := by simp
    idle := by simp [hphase]
    held := by simp [hrst]
    index := h.index
    exchange := fun _ =>
      ⟨p, hframe, by simp, by simp, fun _ => ⟨le_antisymm hle hidx, List.suffix_append_self_iff.mpr hbus⟩, by simp⟩ }

/-- The deassertion after a failed transfer closes its frame (R84, R86). -/
theorem Inv.abortExchange (h : Inv s) (hframe : commandFrame s.cur = some p) (hphase : s.phase = .busy)
    (hstage : s.stage = .failing) (hrst : s.rst = false) : Inv (abortExchange s) := by
  obtain ⟨hidx, -, hcan, hbus⟩ := h.failing hframe hstage
  exact {
    framed := by simp [busFrame_append_singleton, h.framed, hstage, Frame.after]
    selected := by simp
    idle := by simp [hphase]
    held := by simp [hrst]
    index := h.index
    exchange := fun _ => by
      refine ⟨p, hframe, by simp, by simp, by simp, fun _ => ⟨hidx, hcan, ?_⟩⟩
      rw [List.append_cons]
      exact List.suffix_append_self_iff.mpr hbus }

end

/-- A block whose last response follows its exchange's buffers being done with ends its command. -/
theorem respond_forgetBuffers_endsExchange (st : Status) (d : Word) (l : List Byte) (s : State) :
    EndsExchange s (respond st d l (forgetBuffers s)) ⟨st, d, l⟩ :=
  (respond_respondsOnly st d l (forgetBuffers s)).endsExchange.of_forgetBuffers

theorem storeSnapshot_endsExchange (r : List Byte) (s : State) :
    EndsExchange s (respond .ok 1 [] (storeSnapshot r (forgetBuffers s))) ⟨.ok, 1, []⟩ := by
  constructor <;> rfl

/-- Every move keeps the invariant. -/
theorem Inv.move {s t : State} (h : Inv s) (hrst : s.rst = false) (hmove : Move s t) : Inv t := by
  cases hmove with
  | idles hphase hport => exact h
  | accepts hphase hport => exact h.accepts hphase hrst
  | rejects hphase hdec =>
    have hentry := h.entry_of_no_frame (commandFrame_of_illegal hdec)
    exact h.of_ends (raiseIllegal_respondsOnly s).endsExchange (by simp [hentry]) (by simp [hentry]) hrst
  | answers hphase hdec hframe =>
    have hentry := h.entry_of_no_frame hframe
    exact h.of_ends (respond_respondsOnly _ _ _ s).endsExchange (by simp [hentry]) (by simp [hentry]) hrst
  | selects hphase hframe hstage => exact h.beginExchange hframe hphase hstage hrst
  | @transfers p r rest hphase hframe hstage hidx hans =>
    have hrest : Inv { s with answers := rest } := { h with }
    exact hrest.recordTransfer hframe hphase hstage hidx hrst r
  | @fails p rest hphase hframe hstage hidx hans hcan =>
    have hrest : Inv { s with answers := rest } := { h with }
    exact hrest.failTransfer hframe hphase hstage hidx hcan hrst
  | waits hphase hframe hstage hidx hans => exact h
  | deselects hphase hframe hstage hidx => exact h.endExchange hframe hphase hstage hidx hrst
  | aborts hphase hframe hstage => exact h.abortExchange hframe hphase hstage hrst
  | reports hphase hframe hstage =>
    exact h.of_ends (raiseXferError_endsExchange s) (by simp [hstage]) (by simp [hstage]) hrst
  | returns hphase hdec hstage =>
    exact h.of_ends (respond_forgetBuffers_endsExchange _ _ _ s) (by simp [hstage]) (by simp [hstage]) hrst
  | stores hphase hdec hstage hmarker =>
    exact h.of_ends (storeSnapshot_endsExchange _ s) (by simp [hstage]) (by simp [hstage]) hrst
  | discards hphase hdec hstage hmarker =>
    exact h.of_ends (respond_forgetBuffers_endsExchange _ _ _ s) (by simp [hstage]) (by simp [hstage]) hrst

/-- Settles O42: a reset closes what is open, a held RST finds the block idle, and every move of a block whose RST
is not asserted keeps the invariant. -/
theorem stepKeepsTheInvariant : Obligations.StepKeepsTheInvariant := by
  intro s t h hstep
  obtain ⟨-, -, rfl⟩ | ⟨-, hrst, rfl⟩ | ⟨-, hmove⟩ := step_next_cases hstep
  · exact h.applyReset _
  · exact h.sampled _ _ fun _ => h.held hrst
  · exact (h.sampled s.rstIn.tail false nofun).move rfl hmove

end Sys2Proof.Machine

/-! Contents the spec calls unspecified are never observable (R17, R31, D15, D30): each operation leads from
indistinguishable states to indistinguishable ones. -/

namespace Sys2Proof.Machine

/-! ### Responses, reset and the command port -/

section
variable {s t u v : State}

/-- Commands that end alike, with the same response, leave the block idle, where no buffer and no `CUR` is
observable (R31, R32). -/
theorem Indistinguishable.of_ends {r : Response} (h : Indistinguishable s t) (hs : EndsExchange s u r)
    (ht : EndsExchange t v r) (hconnected : u.connected = v.connected)
    (hsnap : u.connected = true → u.snap = v.snap) : Indistinguishable u v where
  connected := hconnected
  csN := by rw [hs.csN, ht.csN, h.csN]
  phase := by rw [hs.phase, ht.phase]
  stage := by rw [hs.stage, ht.stage]
  xidx := by rw [hs.xidx, ht.xidx, h.xidx]
  bus := by rw [hs.bus, ht.bus, h.bus]
  responses := by rw [hs.responses, ht.responses, h.responses]
  port := by rw [hs.port, ht.port, h.port]
  answers := by rw [hs.answers, ht.answers, h.answers]
  rstIn := by rw [hs.rstIn, ht.rstIn, h.rstIn]
  rst := by rw [hs.rst, ht.rst, h.rst]
  xferCanFail := by rw [hs.xferCanFail, ht.xferCanFail, h.xferCanFail]
  snap := hsnap
  cur := by simp [hs.phase]
  txb := by simp [hs.phase]
  rxb := by simp [hs.phase]
  received := by simp [hs.phase]

theorem Indistinguishable.respond (h : Indistinguishable s t) (st : Status) (d : Word) (l : List Byte) :
    Indistinguishable (respond st d l s) (respond st d l t) :=
  h.of_ends (respond_respondsOnly st d l s).endsExchange (respond_respondsOnly st d l t).endsExchange h.connected h.snap

/-- A query's result rests on the snapshot only while `CONNECTED` is 1 (R17, R20). -/
theorem Indistinguishable.whenConnected (h : Indistinguishable s t) (live : Vector Byte 6 → Word) :
    whenConnected s (live s.snap) = whenConnected t (live t.snap) := by
  have hsnap := h.snap
  simp only [Machine.whenConnected, ← h.connected]
  cases hc : s.connected with
  | false => rfl
  | true => simp [hsnap hc]

theorem Indistinguishable.query (h : Indistinguishable s t) (live : Vector Byte 6 → Word) :
    Indistinguishable (Machine.respond .ok (Machine.whenConnected s (live s.snap)) [] s)
      (Machine.respond .ok (Machine.whenConnected t (live t.snap)) [] t) :=
  h.whenConnected live ▸ h.respond _ _ _

/-- After a reset everything R116 leaves unspecified is unobservable. -/
theorem Indistinguishable.applyReset (h : Indistinguishable s t) :
    Indistinguishable (applyReset s) (applyReset t) where
  connected := rfl
  csN := rfl
  phase := rfl
  stage := rfl
  xidx := rfl
  bus := by simp [h.bus, h.csN]
  responses := h.responses
  port := h.port
  answers := h.answers
  rstIn := h.rstIn
  rst := h.rst
  xferCanFail := h.xferCanFail
  snap := by simp
  cur := by simp
  txb := by simp
  rxb := by simp
  received := by simp

theorem Indistinguishable.rstNow (h : Indistinguishable s t) : rstNow s = rstNow t := by
  simp [Machine.rstNow, h.rstIn]

theorem Indistinguishable.sampled (h : Indistinguishable s t) (level : Bool) :
    Indistinguishable { s with rstIn := s.rstIn.tail, rst := level } { t with rstIn := t.rstIn.tail, rst := level } :=
  { h with
    rstIn := congrArg List.tail h.rstIn
    rst := rfl }

/-- An accepted command is in both `CUR`s. -/
theorem Indistinguishable.acceptNext (h : Indistinguishable s t) :
    Indistinguishable (acceptNext s) (acceptNext t) := by
  have hport := h.port
  simp only [Machine.acceptNext, ← hport]
  split
  · exact { h with
      phase := rfl, stage := rfl, port := rfl, cur := by simp, txb := by simp, rxb := by simp, received := by simp }
  · exact h

end

/-! ### The exchange -/

section
variable {s t : State} {p : List Byte}

theorem currentLength_of_frame (hframe : commandFrame s.cur = some p) : currentLength s = p.length := by
  simp [currentLength, hframe]

theorem take_take_of_le {l m : List Byte} {j k : Nat} (h : l.take k = m.take k) (hjk : j ≤ k) :
    l.take j = m.take j := by
  rw [← Nat.min_eq_left hjk, ← List.take_take, h, List.take_take]

theorem getD_eq_of_take {l m : List Byte} {j k : Nat} (h : l.take k = m.take k) (hjk : j < k) :
    l.getD j 0 = m.getD j 0 := by
  rw [List.getD_eq_getElem?_getD, List.getD_eq_getElem?_getD, ← List.getElem?_take_of_lt hjk, h,
    List.getElem?_take_of_lt hjk]

/-- Both transmit buffers hold the frame once it is loaded. -/
theorem Indistinguishable.beginExchange (h : Indistinguishable s t) (hframe : commandFrame s.cur = some p) :
    Indistinguishable (beginExchange p s) (beginExchange p t) :=
  { h with
    csN := rfl
    stage := rfl
    xidx := rfl
    bus := by simp [h.bus]
    txb := fun _ _ => by
      have hlen : currentLength (Machine.beginExchange p s) = p.length := currentLength_of_frame hframe
      rw [hlen, beginExchange_txb, beginExchange_txb, loadTxb_take _ _ (commandFrame_length_le hframe),
        loadTxb_take _ _ (commandFrame_length_le hframe)]
    rxb := by simp
    received := by simp }

/-- The byte to send is one the exchange has written. -/
theorem Indistinguishable.outByte (h : Indistinguishable s t) (hphase : s.phase = .busy)
    (hframe : commandFrame s.cur = some p) (hstage : s.stage = .framing) (hidx : s.xidx < p.length) :
    outByte s = outByte t := by
  have htxb := h.txb hphase hstage
  rw [currentLength_of_frame hframe] at htxb
  rw [Machine.outByte, Machine.outByte, ← h.xidx, getD_eq_of_take htxb hidx]

/-- The same byte goes out, and the same answer is stored at the same position. -/
theorem Indistinguishable.recordTransfer (h : Indistinguishable s t) (hphase : s.phase = .busy)
    (hframe : commandFrame s.cur = some p) (hstage : s.stage = .framing) (hidx : s.xidx < p.length) (r : Byte) :
    Indistinguishable (recordTransfer r s) (recordTransfer r t) := by
  have hout := h.outByte hphase hframe hstage hidx
  have hpos : s.xidx < 16 := hidx.trans_le (commandFrame_length_le hframe)
  exact { h with
    xidx := by simp [h.xidx]
    bus := by simp [h.bus, hout]
    rxb := fun _ _ => by
      rw [recordTransfer_xidx, recordTransfer_rxb, recordTransfer_rxb, ← h.xidx, take_succ_setIfInBounds _ _ _ hpos,
        take_succ_setIfInBounds _ _ _ hpos, h.rxb hphase hstage]
    received := by simp [hstage] }

theorem Indistinguishable.failTransfer (h : Indistinguishable s t) (hphase : s.phase = .busy)
    (hframe : commandFrame s.cur = some p) (hstage : s.stage = .framing) (hidx : s.xidx < p.length) :
    Indistinguishable (failTransfer s) (failTransfer t) := by
  have hout := h.outByte hphase hframe hstage hidx
  exact { h with
    stage := rfl
    bus := by simp [h.bus, hout]
    txb := by simp
    rxb := by simp
    received := by simp }

/-- A completed exchange has received the same bytes. -/
theorem Indistinguishable.endExchange (h : Indistinguishable s t) (hphase : s.phase = .busy)
    (hframe : commandFrame s.cur = some p) (hstage : s.stage = .framing) (hidx : p.length ≤ s.xidx) :
    Indistinguishable (endExchange s) (endExchange t) :=
  { h with
    csN := rfl
    stage := rfl
    bus := by simp [h.bus]
    txb := by simp
    rxb := by simp
    received := fun _ _ => by
      have hlen : currentLength (Machine.endExchange s) = p.length := currentLength_of_frame hframe
      rw [hlen]
      exact take_take_of_le (h.rxb hphase hstage) hidx }

theorem Indistinguishable.abortExchange (h : Indistinguishable s t) :
    Indistinguishable (abortExchange s) (abortExchange t) :=
  { h with
    csN := rfl
    stage := rfl
    bus := by simp [h.bus]
    txb := by simp
    rxb := by simp
    received := by simp }

theorem Indistinguishable.raiseXferError (h : Indistinguishable s t) :
    Indistinguishable (raiseXferError s) (raiseXferError t) :=
  h.of_ends (raiseXferError_endsExchange s) (raiseXferError_endsExchange t) (by simp [h.connected])
    (by simpa using h.snap)

theorem Indistinguishable.receivedFrame (h : Indistinguishable s t) (hphase : s.phase = .busy)
    (hframe : commandFrame s.cur = some p) (hstage : s.stage = .done) :
    receivedFrame p.length s = receivedFrame p.length t := by
  have hreceived := h.received hphase hstage
  rw [currentLength_of_frame hframe] at hreceived
  rw [Machine.receivedFrame, Machine.receivedFrame, hreceived]

theorem Indistinguishable.respond_forgetBuffers (h : Indistinguishable s t) (st : Status) (d : Word) (l : List Byte) :
    Indistinguishable (Machine.respond st d l (forgetBuffers s)) (Machine.respond st d l (forgetBuffers t)) :=
  h.of_ends (respond_forgetBuffers_endsExchange st d l s) (respond_forgetBuffers_endsExchange st d l t) h.connected
    h.snap

theorem Indistinguishable.finishPoll (h : Indistinguishable s t) (r : List Byte) :
    Indistinguishable (finishPoll r (forgetBuffers s)) (finishPoll r (forgetBuffers t)) := by
  unfold Machine.finishPoll
  split
  · exact h.of_ends (storeSnapshot_endsExchange r s) (storeSnapshot_endsExchange r t) rfl fun _ => rfl
  · exact h.respond_forgetBuffers _ _ _

/-! ### The step -/

/-- The Transport's answers are the same, and so is what a transfer does with them. -/
theorem Indistinguishable.transfer (h : Indistinguishable s t) (hphase : s.phase = .busy)
    (hframe : commandFrame s.cur = some p) (hstage : s.stage = .framing) (hidx : s.xidx < p.length) :
    SameOutcome (transfer s) (transfer t) := by
  have hrest (rest : List Answer) : Indistinguishable { s with answers := rest } { t with answers := rest } :=
    { h with answers := rfl }
  obtain ⟨r, rest, hans, hs⟩ | ⟨rest, hans, hcan, hs⟩ | ⟨rest, hans, hcan, hs⟩ | ⟨hans, hin, hs⟩ | ⟨hans, hin, hs⟩ :=
    transfer_cases s <;> rw [hs]
  · rw [transfer_of_byte (h.answers ▸ hans)]
    exact (hrest rest).recordTransfer hphase hframe hstage hidx r
  · rw [transfer_of_fail (h.answers ▸ hans) (h.xferCanFail ▸ hcan)]
    exact (hrest rest).failTransfer hphase hframe hstage hidx
  · rw [transfer_of_excluded_fail (h.answers ▸ hans) (h.xferCanFail ▸ hcan)]
    rfl
  · rw [transfer_of_silence (h.answers ▸ hans) (h.rstIn ▸ hin)]
    rfl
  · rw [transfer_of_wait (h.answers ▸ hans) (h.rstIn ▸ hin)]
    exact h

theorem Indistinguishable.exchangeStep {finish : List Byte → State → State} (h : Indistinguishable s t)
    (hphase : s.phase = .busy) (hframe : commandFrame s.cur = some p)
    (hfinish : ∀ r, Indistinguishable (finish r (forgetBuffers s)) (finish r (forgetBuffers t))) :
    SameOutcome (exchangeStep p finish s) (exchangeStep p finish t) := by
  simp only [Machine.exchangeStep, ← h.stage, ← h.xidx]
  split
  next => exact h.beginExchange hframe
  next hstage =>
    split
    next hidx => exact h.transfer hphase hframe hstage hidx
    next hidx => exact h.endExchange hphase hframe hstage (by omega)
  next => exact h.abortExchange
  next hstage =>
    rw [← h.receivedFrame hphase hframe hstage]
    exact hfinish _
  next => exact h.raiseXferError

theorem Indistinguishable.exec (h : Indistinguishable s t) (hphase : s.phase = .busy) {i : Instr}
    (hdec : decode s.cur = .command i) : SameOutcome (exec i s) (exec i t) := by
  have hframe := commandFrame_of_decode hdec
  cases i with
  | revb v => exact h.respond _ _ _
  | revbuf p => exact h.respond _ _ _
  | xchg p => exact h.exchangeStep hphase hframe fun r => h.respond_forgetBuffers .ok 0 r
  | poll => exact h.exchangeStep hphase hframe h.finishPoll
  | btn b => exact h.query (pressedWord b)
  | btns => exact h.query pressedMask
  | stick a => exact h.query (stickWord a)
  | btnButtons => exact h.query pressedMask

/-- One step from two indistinguishable states leads to indistinguishable states, or stops alike. -/
theorem Indistinguishable.step (h : Indistinguishable s t) : SameOutcome (step s) (step t) := by
  obtain ⟨hlevel, hrst, hstep⟩ | ⟨hlevel, hrst, hstep⟩ | ⟨hlevel, hidle, hstep⟩ | ⟨hlevel, hbusy, i, hdec, hstep⟩ |
    ⟨hlevel, hbusy, ⟨why, hdec⟩, hstep⟩ := step_cases s <;> rw [hstep]
  · rw [step_of_asserted (h.rstNow ▸ hlevel) (h.rst ▸ hrst)]
    exact (h.sampled true).applyReset
  · rw [step_of_held (h.rstNow ▸ hlevel) (h.rst ▸ hrst)]
    exact h.sampled true
  · rw [step_of_idle (h.rstNow ▸ hlevel) (h.phase ▸ hidle)]
    exact (h.sampled false).acceptNext
  · rw [step_of_command (h.rstNow ▸ hlevel) (h.phase ▸ hbusy) (h.cur hbusy ▸ hdec)]
    exact (h.sampled false).exec hbusy hdec
  · rw [step_of_illegal (h.rstNow ▸ hlevel) (h.phase ▸ hbusy) (h.cur hbusy ▸ hdec)]
    exact (h.sampled false).respond _ _ _

end

/-- Outcomes that look the same are both next states, or the same stop. -/
theorem SameOutcome.cases {o q : Host.Outcome State Fault Refusal} (h : SameOutcome o q) :
    (∃ u v, o = .next u ∧ q = .next v ∧ Indistinguishable u v) ∨
    (∃ f, o = .fault f ∧ q = .fault f) ∨ (∃ f, o = .refused f ∧ q = .refused f) := by
  cases o with
  | next u =>
    cases q with
    | next v => exact .inl ⟨u, v, rfl, rfl, h⟩
    | fault g => exact h.elim
    | refused g => exact h.elim
  | fault f =>
    cases q with
    | next v => exact h.elim
    | fault g => exact .inr (.inl ⟨f, rfl, congrArg _ h.symm⟩)
    | refused g => exact h.elim
  | refused f =>
    cases q with
    | next v => exact h.elim
    | fault g => exact h.elim
    | refused g => exact .inr (.inr ⟨f, rfl, congrArg _ h.symm⟩)

/-- Settles O53: by induction on the length of the run; a step from indistinguishable states leads to
indistinguishable states, or stops both runs alike. -/
theorem unspecifiedContentsAreUnobservable : Obligations.UnspecifiedContentsAreUnobservable := by
  intro n
  induction n with
  | zero => exact fun s t h => h
  | succ n ih =>
    intro s t h
    obtain ⟨u, v, hs, ht, hsame⟩ | ⟨f, hs, ht⟩ | ⟨f, hs, ht⟩ := h.step.cases
    · rw [runSteps_succ n s u hs, runSteps_succ n t v ht]
      exact ih u v hsame
    · rw [runSteps_fault n s f hs, runSteps_fault n t f ht]
      rfl
    · rw [runSteps_refused n s f hs, runSteps_refused n t f ht]
      rfl

end Sys2Proof.Machine

/-! What a step leaves of the histories, the inputs, the snapshot and the status codes (`10_state.md`). -/

namespace Sys2Proof.Machine

/-! ### What a move does to each record -/

section
variable {s t : State}

/-- Only an idle block takes a command from its port, the first one (R34). -/
theorem Move.port (h : Move s t) :
    t.port = s.port ∨ (s.phase = .idle ∧ t.phase = .busy ∧ s.port = t.cur :: t.port) := by
  cases h with
  | accepts hphase hport => exact .inr ⟨hphase, rfl, hport⟩
  | reports => exact .inl (raiseXferError_port s)
  | _ => exact .inl rfl

/-- A move adds events to the history, and no `Reset` among them (R39). -/
theorem Move.bus (h : Move s t) : ∃ events, t.bus = s.bus ++ events ∧ Event.reset ∉ events := by
  cases h with
  | selects => exact ⟨_, beginExchange_bus _ s, by simp⟩
  | transfers => exact ⟨_, recordTransfer_bus _ _, by simp⟩
  | fails => exact ⟨_, failTransfer_bus _, by simp⟩
  | deselects => exact ⟨_, endExchange_bus s, by simp⟩
  | aborts => exact ⟨_, abortExchange_bus s, by simp⟩
  | reports => exact ⟨[], by simp⟩
  | _ => exact ⟨[], by simp⟩

/-- Only a transfer takes an answer, the next one (R36). -/
theorem Move.answers_taken (h : Move s t) : t.answers = s.answers ∨ ∃ a, s.answers = a :: t.answers := by
  cases h with
  | transfers hphase hframe hstage hidx hans => exact .inr ⟨_, hans⟩
  | fails hphase hframe hstage hidx hans hcan => exact .inr ⟨_, hans⟩
  | reports => exact .inl (raiseXferError_answers s)
  | _ => exact .inl rfl

/-- No move takes a level of RST or writes `XFER_CAN_FAIL` (R7). -/
theorem Move.parameters (h : Move s t) : t.rstIn = s.rstIn ∧ t.xferCanFail = s.xferCanFail := by
  cases h with
  | reports => exact ⟨raiseXferError_rstIn s, raiseXferError_xferCanFail s⟩
  | _ => exact ⟨rfl, rfl⟩

/-- Only the last step of a POLL with a valid marker writes the snapshot and the flag (R16, R19). -/
theorem Move.snapshot (h : Move s t) :
    (t.snap = s.snap ∧ t.connected = s.connected) ∨
    (s.phase = .busy ∧ decode s.cur = .command .poll ∧ s.stage = .done ∧
      markerValid (receivedFrame 9 s) = true ∧ t.connected = true ∧ t.snap = extractPayload (receivedFrame 9 s)) := by
  cases h with
  | stores hphase hdec hstage hmarker => exact .inr ⟨hphase, hdec, hstage, hmarker, rfl, rfl⟩
  | reports => exact .inl ⟨raiseXferError_snap s, raiseXferError_connected s⟩
  | _ => exact .inl ⟨rfl, rfl⟩

/-- Who delivers a response, and with which status (R26, R101, R102). -/
theorem Move.responses (h : Move s t) :
    t.responses = s.responses ∨
    (∃ d l i, t.responses = s.responses ++ [⟨.ok, d, l⟩] ∧ decode s.cur = .command i ∧
      (commandFrame s.cur = none ∨ s.stage = .done)) ∨
    (∃ why, t.responses = s.responses ++ [⟨.illegal, 0, []⟩] ∧ decode s.cur = .illegal why) ∨
    (∃ i, t.responses = s.responses ++ [⟨.xferErr, 0, []⟩] ∧ decode s.cur = .command i ∧ s.stage = .failed) := by
  cases h with
  | rejects hphase hdec => exact .inr (.inr (.inl ⟨_, rfl, hdec⟩))
  | answers hphase hdec hframe => exact .inr (.inl ⟨_, _, _, rfl, hdec, .inl hframe⟩)
  | reports hphase hframe hstage =>
    obtain ⟨i, hdec⟩ := decode_of_frame hframe
    exact .inr (.inr (.inr ⟨i, raiseXferError_responses s, hdec, hstage⟩))
  | returns hphase hdec hstage => exact .inr (.inl ⟨_, _, _, rfl, hdec, .inr hstage⟩)
  | stores hphase hdec hstage hmarker => exact .inr (.inl ⟨_, _, _, rfl, hdec, .inr hstage⟩)
  | discards hphase hdec hstage hmarker => exact .inr (.inl ⟨_, _, _, rfl, hdec, .inr hstage⟩)
  | _ => exact .inl rfl

end

/-! ### The inputs and the histories -/

/-- Settles O37: a move takes from the port only in an idle block, and a reset leaves it. -/
theorem portIsNeitherLostNorReordered : Obligations.PortIsNeitherLostNorReordered := by
  intro s t h
  obtain ⟨-, -, rfl⟩ | ⟨-, -, rfl⟩ | ⟨hlevel, hmove⟩ := step_next_cases h
  · exact .inl rfl
  · exact .inl rfl
  · obtain hport | ⟨hphase, hbusy, hport⟩ := hmove.port
    · exact .inl hport
    · exact .inr ⟨hphase, hlevel, hbusy, hport⟩

/-- Settles O51: sampling takes a level of RST, and a move at most an answer. -/
theorem inputsAreTakenInOrder : Obligations.InputsAreTakenInOrder := by
  intro s t h
  obtain ⟨-, -, rfl⟩ | ⟨-, -, rfl⟩ | ⟨-, hmove⟩ := step_next_cases h
  · exact ⟨rfl, .inl rfl, rfl⟩
  · exact ⟨rfl, .inl rfl, rfl⟩
  · obtain ⟨hin, hcan⟩ := hmove.parameters
    exact ⟨hin, hmove.answers_taken, hcan⟩

/-- Settles O45: the bus history grows by the events of a reset or of a move, the responses by O46. -/
theorem historyOnlyGrows : Obligations.HistoryOnlyGrows := by
  intro s t h
  constructor
  · obtain ⟨-, -, rfl⟩ | ⟨-, -, rfl⟩ | ⟨-, hmove⟩ := step_next_cases h
    · exact List.prefix_append _ _
    · exact List.prefix_rfl
    · obtain ⟨events, hbus, -⟩ := hmove.bus
      exact ⟨events, hbus.symm⟩
  · obtain ⟨r, hresp, -⟩ | ⟨hresp, -⟩ := oneResponseEndsACommand s t h
    · exact ⟨[r], hresp.symm⟩
    · exact hresp ▸ List.prefix_rfl

/-! ### The select line -/

/-- Outside an exchange select is deasserted, and an idle block is outside one (R25). -/
theorem Inv.csN_of_idle {s : State} (h : Inv s) (hphase : s.phase = .idle) : s.csN = .high := by
  have hentry := h.idle hphase
  exact (h.outside (by simp [hentry]) (by simp [hentry])).2

/-- Settles O44: the invariant says it of a state, and O42 of the next one. -/
theorem idleMeansDeselected : Obligations.IdleMeansDeselected :=
  fun s h => ⟨h.csN_of_idle, fun t hstep => (stepKeepsTheInvariant s t h hstep).csN_of_idle⟩

/-! ### The snapshot -/

theorem markerValid_iff (r : List Byte) : markerValid r = true ↔ r.getD 2 0 = 0x5A := by
  simp [markerValid, frameByte]

/-- The extracted payload of a whole frame is its bytes 3..8 (R14, R90). -/
theorem extractPayload_toList {r : List Byte} (h : r.length = 9) : (extractPayload r).toList = r.drop 3 := by
  apply List.ext_getElem
  · simp [h]
  · intro k hk hk'
    simp only [extractPayload, frameByte, Vector.getElem_toList, Vector.getElem_ofFn, List.getElem_drop]
    simp at hk
    rw [List.getD_eq_getElem _ _ (by omega)]

/-- The marker is the reversal of `RXB[2]` (R89). -/
theorem receivedFrame_marker (s : State) : (receivedFrame 9 s).getD 2 0 = rev8 (s.rxb.get 2) := by
  simp [receivedFrame_eq_map, Vector.get_eq_getElem]

/-- Settles O47: of all steps only a POLL's storing move and a reset write the snapshot or the flag. -/
theorem onlyAValidPollWritesTheSnapshot : Obligations.OnlyAValidPollWritesTheSnapshot := by
  intro s t h
  obtain ⟨hlevel, hrst, rfl⟩ | ⟨-, -, rfl⟩ | ⟨-, hmove⟩ := step_next_cases h
  · exact .inr (.inr ⟨hrst, hlevel, rfl⟩)
  · exact .inl ⟨rfl, rfl⟩
  · obtain hkept | ⟨hphase, hdec, hstage, hmarker, hconnected, hsnap⟩ := hmove.snapshot
    · exact .inl hkept
    · refine .inr (.inl ⟨hphase, hdec, hstage, ?_, hconnected, ?_⟩)
      · exact (receivedFrame_marker s).symm.trans ((markerValid_iff _).mp hmarker)
      · rw [hsnap, extractPayload_toList (receivedFrame_length 9 _ (by decide)), receivedFrame_eq_map]
        simp [List.map_drop, List.drop_take]

/-! ### The last valid poll -/

/-- The last transfers of a history are those of its last exchange. -/
theorem lastReceived_of_suffix {n : Nat} {l history : List Event} (h : l <:+ history)
    (hn : (inBytes l).length = n) : lastReceived n history = (inBytes l).map rev8 := by
  obtain ⟨pre, rfl⟩ := h
  simp [lastReceived, inBytes_append, hn]

/-- The in-bytes of a whole select frame. -/
theorem inBytes_selectFrame {p rs : List Byte} (h : rs.length ≤ p.length) :
    inBytes (.csAssert :: transferEvents p rs ++ [.csDeassert]) = rs := by
  have hassert (l : List Event) : inBytes (.csAssert :: l) = inBytes l := rfl
  have hdeassert : inBytes [.csDeassert] = [] := rfl
  rw [inBytes_append, hassert, hdeassert, inBytes_transferEvents h, List.append_nil]

section
variable {s : State}

/-- At the end of a POLL the history ends with its exchange of the poll frame, whose in-bytes `RXB` holds. -/
theorem Inv.polled (h : Inv s) (hdec : decode s.cur = .command .poll) (hstage : s.stage = .done) :
    .csAssert :: transferEvents pollFrame (s.rxb.toList.take 9) ++ [.csDeassert] <:+ s.bus := by
  obtain ⟨hidx, hbus⟩ := h.done (commandFrame_of_decode hdec) hstage
  rwa [exchangeSoFar, hidx] at hbus

/-- What an onlooker of the bus history takes for POLL's received frame is the one POLL validates. -/
theorem Inv.lastReceived_polled (h : Inv s) (hdec : decode s.cur = .command .poll) (hstage : s.stage = .done) :
    lastReceived 9 s.bus = receivedFrame 9 s := by
  have hbytes := inBytes_selectFrame (p := pollFrame) (rs := s.rxb.toList.take 9) (by simp)
  rw [lastReceived_of_suffix (h.polled hdec hstage) (by rw [hbytes]; simp), hbytes, receivedFrame_eq_map]

/-- The last step of a POLL with a valid marker stores the snapshot (R88, R90). -/
theorem step_of_valid_poll (h : pollEnds s) (hmarker : markerValid (receivedFrame 9 s) = true) :
    step s = .next (respond .ok 1 [] (storeSnapshot (receivedFrame 9 s)
      (forgetBuffers { s with rstIn := s.rstIn.tail, rst := false }))) := by
  obtain ⟨hlevel, hphase, hdec, hstage⟩ := h
  rw [step_of_command hlevel hphase hdec]
  simp only [exec, execPoll, exchangeStep, hstage]
  exact congrArg _ (if_pos hmarker)

/-- A valid POLL's logical bytes are the last valid poll the snapshot and the flag agree with. -/
theorem HoldsLastPoll.of_valid_poll {t : State} (h : Inv s) (hends : pollEnds s)
    (hmarker : (receivedFrame 9 s).getD 2 0 = 0x5A) (hstep : step s = .next t) :
    HoldsLastPoll (some (receivedFrame 9 s)) t := by
  rw [step_of_valid_poll hends ((markerValid_iff _).mpr hmarker)] at hstep
  cases hstep
  obtain ⟨-, -, hdec, hstage⟩ := hends
  have hlen := receivedFrame_length 9 s (by decide)
  obtain ⟨pre, hbus⟩ := h.polled hdec hstage
  have hwire : (receivedFrame 9 s).map rev8 = s.rxb.toList.take 9 := by
    simp [receivedFrame_eq_map, Function.comp_def]
  exact {
    connected := rfl
    snap := by
      rintro _ ⟨⟩
      exact extractPayload_toList hlen
    valid := by
      rintro _ ⟨⟩
      exact ⟨hlen, hmarker⟩
    exchanged := by
      rintro _ ⟨⟩
      exact ⟨pre, [], by simp [hwire, ← hbus], by simp⟩ }

/-- A step that leaves the snapshot and the flag, and adds no `Reset` to the history, leaves the record right. -/
theorem HoldsLastPoll.of_kept {t : State} {last : Option (List Byte)} {events : List Event}
    (h : HoldsLastPoll last s) (hsnap : t.snap = s.snap) (hconnected : t.connected = s.connected)
    (hbus : t.bus = s.bus ++ events) (hevents : Event.reset ∉ events) : HoldsLastPoll last t where
  connected := hconnected.trans h.connected
  snap := fun r hr => hsnap ▸ h.snap r hr
  valid := h.valid
  exchanged := fun r hr => by
    obtain ⟨pre, post, hexchange, hpost⟩ := h.exchanged r hr
    exact ⟨pre, post ++ events, by rw [hbus, hexchange, List.append_assoc], by simp [hpost, hevents]⟩

/-- A cleared flag agrees with the record of no valid poll (R21). -/
theorem HoldsLastPoll.of_disconnected (h : s.connected = false) : HoldsLastPoll none s where
  connected := h
  snap := nofun
  valid := nofun
  exchanged := nofun

end

/-- Settles O56: reset leaves the flag cleared. -/
theorem resetHoldsNoPoll : Obligations.ResetHoldsNoPoll := .of_disconnected rfl

/-- Settles O55: a reset clears the flag and the record, a valid POLL writes both, and every other step leaves the
snapshot and the flag and adds no `Reset` to the history. -/
theorem snapshotIsTheLastValidPolls : Obligations.SnapshotIsTheLastValidPolls := by
  intro s t last hinv hlast hstep
  obtain ⟨hlevel, hrst, rfl⟩ | ⟨hlevel, hrst, rfl⟩ | ⟨hlevel, hmove⟩ := step_next_cases hstep
  · simp only [lastPollAfter, hlevel, hrst, and_self, if_true]
    exact .of_disconnected rfl
  · simp only [lastPollAfter, pollEnds, hlevel, hrst, reduceCtorEq, and_false, false_and, if_false]
    exact hlast.of_kept rfl rfl (List.append_nil _).symm (by simp)
  · simp only [lastPollAfter, hlevel, reduceCtorEq, false_and, if_false]
    split
    case isTrue hvalid =>
      obtain ⟨hends, hmarker⟩ := hvalid
      have ⟨_, _, hdec, hstage⟩ := hends
      rw [hinv.lastReceived_polled hdec hstage] at hmarker ⊢
      exact .of_valid_poll hinv hends hmarker hstep
    case isFalse hother =>
      obtain ⟨events, hbus, hevents⟩ := hmove.bus
      obtain ⟨hsnap, hconnected⟩ | ⟨hphase, hdec, hstage, hmarker, -⟩ := hmove.snapshot
      · exact hlast.of_kept hsnap hconnected hbus hevents
      · refine absurd ⟨⟨hlevel, hphase, hdec, hstage⟩, ?_⟩ hother
        rw [hinv.lastReceived_polled hdec hstage]
        exact (markerValid_iff _).mp hmarker

/-! ### The status codes -/

/-- A code names exactly the status that has it (R26). -/
theorem Status.ofCode_eq_some_iff (st : Status) (k : BitVec 2) : Status.ofCode k = some st ↔ k = st.code := by
  revert k
  cases st <;> decide

/-- Two statuses with one code are one status. -/
theorem Status.code_eq_iff (st other : Status) : st.code = other.code ↔ st = other := by
  rw [← Status.ofCode_eq_some_iff, (Status.ofCode_eq_some_iff st _).mpr rfl, Option.some.injEq]

/-- The reserved code is no status's (D32). -/
theorem Status.code_ne_reserved (st : Status) : st.code ≠ 0b11 := by
  cases st <;> decide

/-- In a state with the invariant a move responds ILLEGAL exactly where `CUR` is malformed, and XFER_ERR exactly
where a transfer failed (R101, R102). -/
theorem Move.status_iff {s t : State} {r : Response} (h : Inv s) (hmove : Move s t)
    (hresp : t.responses = s.responses ++ [r]) :
    (r.status = .illegal ↔ ∃ why, decode s.cur = .illegal why) ∧ (r.status = .xferErr ↔ s.stage = .failed) := by
  obtain hnone | ⟨d, l, i, hok, hdec, hend⟩ | ⟨why, hillegal, hdec⟩ | ⟨i, herr, hdec, hstage⟩ := hmove.responses
  · simp [hnone] at hresp
  · obtain rfl : r = ⟨.ok, d, l⟩ := by simpa [hok] using hresp.symm
    have hstage : s.stage ≠ .failed := by
      obtain hframe | hdone := hend
      · simp [h.entry_of_no_frame hframe]
      · simp [hdone]
    simp [hdec, hstage]
  · obtain rfl : r = ⟨.illegal, 0, []⟩ := by simpa [hillegal] using hresp.symm
    simp [hdec, h.entry_of_no_frame (commandFrame_of_illegal hdec)]
  · obtain rfl : r = ⟨.xferErr, 0, []⟩ := by simpa [herr] using hresp.symm
    simp [hdec, hstage]

/-- After a failed exchange the Transport can fail, and the history ends with the failed transfer and the
deassertion (R7, R84). -/
theorem Inv.failed_history {s : State} (h : Inv s) (hstage : s.stage = .failed) :
    s.xferCanFail = true ∧ ∃ p, commandFrame s.cur = some p ∧
      ∃ pre o, s.bus = pre ++ [.xferFail o, .csDeassert] := by
  obtain ⟨p, hframe, -⟩ := h.exchange (by simp [hstage])
  obtain ⟨-, hcan, pre, hbus⟩ := h.failed hframe hstage
  exact ⟨hcan, p, hframe, pre ++ exchangeSoFar p s, _, by rw [← hbus, List.append_assoc]⟩

/-- Settles O57: the codes by their table, the producers by the moves that respond. -/
theorem statusCodesAndTheirProducers : Obligations.StatusCodesAndTheirProducers := by
  refine ⟨rfl, rfl, rfl, Status.ofCode_eq_some_iff, fun r => r.status.code_ne_reserved, ?_⟩
  intro s t r h hstep hresp
  obtain ⟨-, -, rfl⟩ | ⟨-, -, rfl⟩ | ⟨-, hmove⟩ := step_next_cases hstep
  · simp at hresp
  · simp at hresp
  · obtain ⟨hillegal, herr⟩ := hmove.status_iff (h.sampled s.rstIn.tail false nofun) hresp
    have hcode (st : Status) : r.statusCode = st.code ↔ r.status = st := r.status.code_eq_iff st
    exact ⟨(hcode .illegal).trans hillegal, (hcode .xferErr).trans herr,
      fun hx => h.failed_history (herr.mp ((hcode .xferErr).mp hx))⟩

/-! ### Reset values and single steps -/

/-- Settles O35: RST's sampling, then the meaning of the decoded command. -/
theorem stepRunsTheDecodedCommand : Obligations.StepRunsTheDecodedCommand :=
  fun _ _ hphase hlevel hdec _ => step_of_command hlevel hphase hdec

/-- Settles O36: by whether a command is at the port. -/
theorem idleBlockAcceptsTheNextCommand : Obligations.IdleBlockAcceptsTheNextCommand := by
  intro s hphase hlevel
  refine ⟨_, step_of_idle hlevel hphase, ?_⟩
  cases s.port with
  | nil => simp [acceptNext]
  | cons cmd rest => simp [acceptNext]

/-- Settles O40: by the definition of the state after reset. -/
theorem resetValues : Obligations.ResetValues := ⟨rfl, rfl, rfl, rfl⟩

/-- Settles O41: the one step is the reset's, with select deasserted before it. -/
theorem resetFromPowerOn : Obligations.ResetFromPowerOn :=
  ⟨_, step_of_asserted rfl rfl, rfl, rfl, rfl, rfl, rfl, rfl, rfl, rfl, rfl⟩

/-- Settles O43: the history of one `Reset` opens no select frame, and no exchange is under way. -/
theorem resetHasTheInvariant : Obligations.ResetHasTheInvariant where
  framed := rfl
  selected := by decide
  idle := fun _ => rfl
  held := fun _ => rfl
  index := by decide
  exchange := fun hstage => absurd rfl hstage

end Sys2Proof.Machine

/-! Commands issued twice (R51) and what reaches the bus (R50): the run of a whole exchange of R80, from the
acceptance of its command to its last step. -/

namespace Sys2Proof.Machine

/-! ### Runs -/

/-- The first step of a run that reaches a next state reaches one. -/
theorem step_of_runSteps_succ {n : Nat} {s t : State} (h : runSteps (n + 1) s = .next t) :
    ∃ u, step s = .next u ∧ runSteps n u = .next t := by
  cases hstep : step s with
  | next u => exact ⟨u, rfl, (runSteps_succ n s u hstep).symm.trans h⟩
  | fault f => cases (runSteps_fault n s f hstep).symm.trans h
  | refused f => cases (runSteps_refused n s f hstep).symm.trans h

/-- A run goes on from where its first part ends. -/
theorem runSteps_add {m : Nat} {s t : State} (n : Nat) (h : runSteps m s = .next t) :
    runSteps (m + n) s = runSteps n t := by
  induction m generalizing s with
  | zero =>
    cases h
    rw [Nat.zero_add]
  | succ m ih =>
    obtain ⟨u, hstep, hrun⟩ := step_of_runSteps_succ h
    rw [Nat.add_right_comm, runSteps_succ _ s u hstep, ih hrun]

/-- The last step of a run. -/
theorem runSteps_snoc {n : Nat} {s t u : State} (h : runSteps n s = .next t) (hstep : step t = .next u) :
    runSteps (n + 1) s = .next u := by
  rw [runSteps_add 1 h, runSteps_succ 0 t u hstep, runSteps_zero]

/-- RST is not asserted at any of the next `n` steps (R38). -/
def ReleasedFor (n : Nat) (s : State) : Prop := ∀ k < n, s.rstIn.getD k false = false

/-- With no level of RST to come it is never asserted. -/
theorem ReleasedFor.of_empty {s : State} (n : Nat) (h : s.rstIn = []) : ReleasedFor n s := by
  simp [ReleasedFor, h]

theorem ReleasedFor.mono {m n : Nat} {s : State} (h : ReleasedFor n s) (hmn : m ≤ n) : ReleasedFor m s :=
  fun k hk => h k (by omega)

/-- The step after `k` of them samples a level that is not asserted. -/
theorem ReleasedFor.rstNow_drop {k n : Nat} {s t : State} (h : ReleasedFor n s) (hk : k < n)
    (hin : t.rstIn = s.rstIn.drop k) : rstNow t = false := by
  simpa [rstNow, hin, List.headD_eq_head?_getD, List.getD_eq_getElem?_getD] using h k hk

/-! ### The exchange under way -/

/-- The receive buffer after the wire bytes `rs` were stored from its first position on (R80 step 3). -/
def fillRxb (rs : List Byte) (b : Vector Byte 16) : Vector Byte 16 :=
  Vector.ofFn fun k => (rs[k.val]?).getD (b.get k)

@[simp] theorem fillRxb_nil (b : Vector Byte 16) : fillRxb [] b = b := by
  ext k hk
  simp [fillRxb, Vector.get_eq_getElem]

/-- One more byte stored at the next position. -/
theorem setIfInBounds_fillRxb (rs : List Byte) (r : Byte) (b : Vector Byte 16) :
    (fillRxb rs b).setIfInBounds rs.length r = fillRxb (rs ++ [r]) b := by
  ext k hk
  simp only [fillRxb, Vector.getElem_setIfInBounds, Vector.getElem_ofFn]
  obtain hlt | rfl | hgt := Nat.lt_trichotomy k rs.length
  · simp [hlt, hlt.ne', List.getElem?_append_left hlt]
  · simp
  · simp [hgt.ne, List.getElem?_eq_none_iff.mpr hgt.le, List.getElem?_append_right hgt.le, Nat.sub_ne_zero_of_lt hgt]

/-- What was stored is read back. -/
theorem fillRxb_take (rs : List Byte) (b : Vector Byte 16) (h : rs.length ≤ 16) :
    (fillRxb rs b).toList.take rs.length = rs := by
  apply List.ext_getElem
  · simp [h]
  · intro k hk hk'
    simp [fillRxb, hk']

/-- The events of one more transfer of a frame (R80, R82). -/
theorem transferEvents_snoc {p rs : List Byte} (r : Byte) (h : rs.length < p.length) :
    transferEvents p (rs ++ [r]) = transferEvents p rs ++ [.xfer (rev8 (p.getD rs.length 0)) r] := by
  induction rs generalizing p with
  | nil =>
    cases p with
    | nil => simp at h
    | cons v p => simp [transferEvents]
  | cons x rs ih =>
    cases p with
    | nil => simp at h
    | cons v p => simpa [transferEvents] using ih (p := p) (by simpa using h)

/-- The block that accepted its command as `s` and is exchanging `p`, its first transfers answered with the wire
bytes `rs` (R80, R86): select is asserted and the next transfer is the one of position `rs.length`. -/
def exchanging (p rs : List Byte) (s : State) : State :=
  { s with
    stage := .framing
    csN := .low
    xidx := rs.length
    txb := loadTxb p s.txb
    rxb := fillRxb rs s.rxb
    bus := s.bus ++ .csAssert :: transferEvents p rs }

theorem beginExchange_eq_exchanging (p : List Byte) (s : State) : beginExchange p s = exchanging p [] s := by
  simp [beginExchange, setSelect, exchanging, transferEvents]

/-- The byte an exchange under way sends next (R82). -/
theorem outByte_exchanging {p rs : List Byte} (s : State) (hp : p.length ≤ 16) (hlen : rs.length < p.length) :
    outByte (exchanging p rs s) = rev8 (p.getD rs.length 0) :=
  outByte_eq_rev8 (by rw [exchanging, loadTxb_take p _ hp, reverseBits_eq_rev8]) hlen

/-- A completed transfer of an exchange under way (R80 step 3). -/
theorem transfer_exchanging {p rs : List Byte} {r : Byte} {more : List Answer} {s : State}
    (hp : p.length ≤ 16) (hlen : rs.length < p.length) (hans : s.answers = .byte r :: more) :
    transfer (exchanging p rs s) = .next (exchanging p (rs ++ [r]) { s with answers := more }) := by
  have hbus : outByte { exchanging p rs s with answers := more } = rev8 (p.getD rs.length 0) :=
    outByte_exchanging s hp hlen
  rw [transfer_of_byte (s := exchanging p rs s) hans, recordTransfer, hbus]
  simp [exchanging, setIfInBounds_fillRxb, transferEvents_snoc r hlen]

/-- At the end of a whole exchange the received frame is the answers' logical bytes (R80 step 5). -/
theorem receivedFrame_exchanged {p rs : List Byte} (s : State) (hp : p.length ≤ 16) (hlen : rs.length = p.length) :
    receivedFrame p.length (endExchange (exchanging p rs s)) = rs.map rev8 := by
  rw [receivedFrame_eq_map, endExchange_rxb, exchanging, ← hlen, fillRxb_take rs _ (by omega)]

/-! ### The run of an exchange -/

/-- The own last step of a command that exchanges a frame (R87, R88); no other command has one. -/
def exchangeFinish : Instr → List Byte → State → State
  | .xchg _ => respond .ok 0
  | .poll => finishPoll
  | _ => fun _ s => s

/-- A command that exchanges a frame takes one step of its exchange. -/
theorem exec_of_frame {i : Instr} {p : List Byte} (h : exchangeFrame i = some p) (s : State) :
    exec i s = exchangeStep p (exchangeFinish i) s := by
  cases i <;> simp only [exchangeFrame, Option.some.injEq, reduceCtorEq] at h
  case xchg q =>
    subst h
    rfl
  case poll =>
    subst h
    rfl

/-- The idle block `s` once it accepted `cmd` and `n` steps each sampled a level of RST that is not asserted; `more`
are the answers to come. -/
def accepted (cmd : Command) (cmds : List Command) (n : Nat) (more : List Answer) (s : State) : State :=
  { s with
    port := cmds
    phase := .busy
    cur := cmd
    stage := .entry
    answers := more
    rstIn := s.rstIn.drop n
    rst := false }

/-- One more level sampled. -/
theorem accepted_sampled (cmd : Command) (cmds : List Command) (n : Nat) (more : List Answer) (s : State) :
    { accepted cmd cmds n more s with rstIn := (accepted cmd cmds n more s).rstIn.tail, rst := false } =
      accepted cmd cmds (n + 1) more s := by
  simp [accepted]

section
variable {s : State} {cmd : Command} {cmds : List Command} {i : Instr} {p rs : List Byte} {more : List Answer}

/-- The first step of an idle block with a command at its port (R34). -/
theorem step_accepts (hphase : s.phase = .idle) (hport : s.port = cmd :: cmds) (hrst : rstNow s = false) :
    step s = .next (accepted cmd cmds 1 s.answers s) := by
  rw [step_of_idle hrst hphase]
  simp [acceptNext, hport, accepted]

/-- The step after the acceptance begins the exchange (R80 steps 1 and 2). -/
theorem step_begins (n : Nat) (hdec : decode cmd = .command i) (hframe : exchangeFrame i = some p)
    (hrst : rstNow (accepted cmd cmds n more s) = false) :
    step (accepted cmd cmds n more s) = .next (exchanging p [] (accepted cmd cmds (n + 1) more s)) := by
  rw [step_of_command hrst rfl hdec, accepted_sampled, exec_of_frame hframe, ← beginExchange_eq_exchanging]
  rfl

/-- A step of an exchange under way, RST's level sampled. -/
theorem step_exchanging (n : Nat) (hdec : decode cmd = .command i) (hframe : exchangeFrame i = some p)
    (hrst : rstNow (accepted cmd cmds n more s) = false) :
    step (exchanging p rs (accepted cmd cmds n more s)) =
      exchangeStep p (exchangeFinish i) (exchanging p rs (accepted cmd cmds (n + 1) more s)) := by
  rw [← exec_of_frame hframe, ← accepted_sampled]
  exact step_of_command (s := exchanging p rs (accepted cmd cmds n more s)) hrst rfl hdec

/-- A transfer of an exchange under way, the next answer a byte (R80 step 3). -/
theorem step_transfers {r : Byte} (n : Nat) (hdec : decode cmd = .command i) (hframe : exchangeFrame i = some p)
    (hlen : rs.length < p.length) (hrst : rstNow (accepted cmd cmds n (.byte r :: more) s) = false) :
    step (exchanging p rs (accepted cmd cmds n (.byte r :: more) s)) =
      .next (exchanging p (rs ++ [r]) (accepted cmd cmds (n + 1) more s)) := by
  have hp := exchangeFrame_length_le (decode_wf hdec) hframe
  rw [step_exchanging n hdec hframe hrst]
  exact (if_pos hlen).trans (transfer_exchanging hp hlen rfl)

/-- The last transfer done, the next step of the exchange deasserts select (R80 step 4). -/
theorem step_deselects (n : Nat) (hdec : decode cmd = .command i) (hframe : exchangeFrame i = some p)
    (hlen : rs.length = p.length) (hrst : rstNow (accepted cmd cmds n more s) = false) :
    step (exchanging p rs (accepted cmd cmds n more s)) =
      .next (endExchange (exchanging p rs (accepted cmd cmds (n + 1) more s))) := by
  rw [step_exchanging n hdec hframe hrst]
  exact if_neg hlen.not_lt

/-- Select deasserted, the command takes its own last step on the logical received frame (R80 step 5). -/
theorem step_finishes (n : Nat) (hdec : decode cmd = .command i) (hframe : exchangeFrame i = some p)
    (hlen : rs.length = p.length) (hrst : rstNow (accepted cmd cmds n more s) = false) :
    step (endExchange (exchanging p rs (accepted cmd cmds n more s))) =
      .next (exchangeFinish i (rs.map rev8)
        (forgetBuffers (endExchange (exchanging p rs (accepted cmd cmds (n + 1) more s))))) := by
  have hp := exchangeFrame_length_le (decode_wf hdec) hframe
  rw [← receivedFrame_exchanged (accepted cmd cmds (n + 1) more s) hp hlen, ← accepted_sampled cmd cmds n]
  refine (step_of_command (s := endExchange (exchanging p rs (accepted cmd cmds n more s))) hrst rfl hdec).trans ?_
  rw [exec_of_frame hframe]
  rfl

/-- An idle block with a command of the frame `p` at its port has, after `j + 2` steps, accepted it and made `j`
transfers, `j` at most the frame's length (R80, R86). -/
theorem runSteps_exchanging (hphase : s.phase = .idle) (hport : s.port = cmd :: cmds)
    (hdec : decode cmd = .command i) (hframe : exchangeFrame i = some p) (hlen : rs.length ≤ p.length)
    (hrst : ReleasedFor (rs.length + 2) s) (hans : s.answers = rs.map .byte ++ more) :
    runSteps (rs.length + 2) s = .next (exchanging p rs (accepted cmd cmds (rs.length + 2) more s)) := by
  induction rs using List.reverseRecOn generalizing more with
  | nil =>
    have haccept := step_accepts hphase hport (hrst.rstNow_drop (k := 0) (by simp) rfl)
    have hbegin := step_begins (cmds := cmds) (more := s.answers) 1 hdec hframe
      (hrst.rstNow_drop (k := 1) (by simp) rfl)
    rw [show s.answers = more from hans] at haccept hbegin
    exact runSteps_snoc (runSteps_snoc (runSteps_zero s) haccept) hbegin
  | append_singleton rs r ih =>
    simp only [List.length_append, List.length_singleton] at hlen hrst ⊢
    have hbefore := ih (more := .byte r :: more) (by omega) (hrst.mono (by omega)) (by simp [hans])
    exact runSteps_snoc hbefore (step_transfers _ hdec hframe hlen
      (hrst.rstNow_drop (k := rs.length + 2) (by omega) rfl))

/-- A whole exchange command (R80, R86): accepted, its `N` transfers answered with the wire bytes `rs`, select
deasserted, and its own last step taken on the logical received frame. -/
theorem runSteps_exchange (hphase : s.phase = .idle) (hport : s.port = cmd :: cmds)
    (hdec : decode cmd = .command i) (hframe : exchangeFrame i = some p) (hlen : rs.length = p.length)
    (hrst : ReleasedFor (p.length + 4) s) (hans : s.answers = rs.map .byte ++ more) :
    runSteps (p.length + 4) s = .next (exchangeFinish i (rs.map rev8)
      (forgetBuffers (endExchange (exchanging p rs (accepted cmd cmds (p.length + 4) more s))))) := by
  have hrun := runSteps_exchanging hphase hport hdec hframe hlen.le (hrst.mono (by omega)) hans
  rw [hlen] at hrun
  have hdeselect := step_deselects (cmds := cmds) (more := more) (p.length + 2) hdec hframe hlen
    (hrst.rstNow_drop (k := p.length + 2) (by omega) rfl)
  have hfinish := step_finishes (cmds := cmds) (more := more) (p.length + 3) hdec hframe hlen
    (hrst.rstNow_drop (k := p.length + 3) (by omega) rfl)
  exact runSteps_snoc (runSteps_snoc hrun hdeselect) hfinish

end

/-! ### Commands issued twice -/

/-- What a query answers depends on the snapshot and the flag alone (R20, R99). -/
theorem whenConnected_live {s t : State} (live : Vector Byte 6 → Word) (hsnap : t.snap = s.snap)
    (hconnected : t.connected = s.connected) : whenConnected t (live t.snap) = whenConnected s (live s.snap) := by
  simp [whenConnected, hsnap, hconnected]

/-- A command without an exchange answers the same in every state with the same snapshot and flag (R50, R51). -/
theorem exec_of_no_frame {i : Instr} (s : State) (h : exchangeFrame i = none) :
    ∃ d l, ∀ t : State, t.snap = s.snap → t.connected = s.connected → exec i t = .next (respond .ok d l t) := by
  have hquery (live : Vector Byte 6 → Word) (t : State) (hsnap : t.snap = s.snap)
      (hconnected : t.connected = s.connected) :
      (.next (respond .ok (whenConnected t (live t.snap)) [] t) : Host.Outcome State Fault Refusal) =
        .next (respond .ok (whenConnected s (live s.snap)) [] t) := by
    rw [whenConnected_live live hsnap hconnected]
  cases i with
  | revb v => exact ⟨_, _, fun _ _ _ => rfl⟩
  | revbuf p => exact ⟨_, _, fun _ _ _ => rfl⟩
  | xchg p => cases h
  | poll => cases h
  | btn b => exact ⟨_, _, hquery (pressedWord b)⟩
  | btns => exact ⟨_, _, hquery pressedMask⟩
  | stick a => exact ⟨_, _, hquery (stickWord a)⟩
  | btnButtons => exact ⟨_, _, hquery pressedMask⟩

/-- Settles O20: the first issue writes neither the snapshot nor the flag, on which alone the answer depends. -/
theorem pureCommandsAreIdempotent : Obligations.PureCommandsAreIdempotent := by
  intro s i h
  obtain ⟨d, l, hexec⟩ := exec_of_no_frame s h
  exact ⟨_, _, _, hexec s rfl rfl, respond_responses .ok d l s, hexec (respond .ok d l s) rfl rfl, by simp⟩

/-- A POLL whose nine answers carry a valid marker, presented to an idle block with no reset to come: after 13
steps the block is idle with the answers' payload as its snapshot and the flag set, and the later commands and
answers still wait (R88, R90). -/
theorem runSteps_valid_poll {s : State} {cmds : List Command} {rs : List Byte} {more : List Answer}
    (hphase : s.phase = .idle) (hin : s.rstIn = []) (hport : s.port = ⟨0x4000, []⟩ :: cmds) (hlen : rs.length = 9)
    (hmarker : rev8 (rs.getD 2 0) = 0x5A) (hans : s.answers = rs.map .byte ++ more) :
    ∃ t, runSteps 13 s = .next t ∧ t.phase = .idle ∧ t.rstIn = [] ∧ t.port = cmds ∧ t.answers = more ∧
      t.snap = extractPayload (rs.map rev8) ∧ t.connected = true := by
  have hvalid : markerValid (rs.map rev8) = true := by
    rw [List.getD_eq_getElem _ _ (by simp [hlen])] at hmarker
    rw [markerValid_iff, List.getD_eq_getElem _ _ (by simp [hlen]), List.getElem_map, hmarker]
  have hrun := runSteps_exchange hphase hport (i := .poll) (by decide) rfl hlen (.of_empty _ hin) hans
  rw [exchangeFinish, finishPoll, if_pos hvalid] at hrun
  exact ⟨_, hrun, rfl, by simp [hin, accepted, exchanging], rfl, rfl, rfl, rfl⟩

/-- Settles O34: each POLL leaves the payload of its answers, which are the same, and the queries depend on the
snapshot and the flag alone. -/
theorem repeatedPollIsIdempotent : Obligations.RepeatedPollIsIdempotent := by
  intro s rs cmds more hphase hin hport hlen hmarker hans
  rw [List.append_assoc] at hans
  obtain ⟨t, hfirst, hphase', hin', hport', hans', hsnap, hconnected⟩ :=
    runSteps_valid_poll hphase hin hport hlen hmarker hans
  obtain ⟨u, hsecond, -, -, -, -, hsnap', hconnected'⟩ :=
    runSteps_valid_poll hphase' hin' hport' hlen hmarker hans'
  have hsame : u.snap = t.snap := hsnap'.trans hsnap.symm
  have hflag : u.connected = t.connected := hconnected'.trans hconnected.symm
  refine ⟨t, u, hfirst, (runSteps_add 13 hfirst).trans hsecond, hsame, hflag, fun i hquery => ?_⟩
  have hnone : exchangeFrame i = none := by
    obtain rfl | rfl | ⟨b, rfl⟩ | ⟨a, rfl⟩ := hquery <;> rfl
  obtain ⟨d, l, hexec⟩ := exec_of_no_frame t hnone
  exact ⟨_, _, _, hexec t rfl rfl, hexec u hsame hflag, respond_responses .ok d l t, respond_responses .ok d l u⟩

/-! ### What reaches the bus -/

/-- Only a command that exchanges a frame drives select and adds to the bus history (R10, R23, R50). -/
theorem Move.reaches_bus {s t : State} (h : Move s t) :
    (t.bus = s.bus ∧ t.csN = s.csN) ∨ (s.phase = .busy ∧ ∃ p, commandFrame s.cur = some p) := by
  cases h with
  | selects hphase hframe | transfers hphase hframe | fails hphase hframe | deselects hphase hframe
  | aborts hphase hframe | reports hphase hframe => exact .inr ⟨hphase, _, hframe⟩
  | _ => exact .inl ⟨rfl, rfl⟩

/-- Settles O49: without a reset a step is a move, and of the moves only those of an exchange reach the bus. -/
theorem onlyExchangesReachTheBus : Obligations.OnlyExchangesReachTheBus := by
  intro s t h hlevel hchange
  obtain ⟨hasserted, -, -⟩ | ⟨hasserted, -, -⟩ | ⟨-, hmove⟩ := step_next_cases h
  · simp [hlevel] at hasserted
  · simp [hlevel] at hasserted
  · obtain ⟨hbus, hcsN⟩ | hexchange := hmove.reaches_bus
    · exact absurd hchange (by simp [hbus, hcsN])
    · exact hexchange

end Sys2Proof.Machine

/-! The encoding (`30_encoding.md`): the fields of a command word, the round trip of decoder and encoder, and from
it one fact for each row of R65. -/

namespace Sys2Proof

open Machine
open Laws.EncodedLength (fieldOp_pack fieldSel_pack frame_length)

/-! ### The fields of a word -/

@[simp] theorem fieldImm_pack (op sel : BitVec 4) (imm : Byte) : fieldImm (packWord op sel imm) = imm :=
  BitVec.extractLsb'_append_eq_right

/-- The three fields are the whole word (R59). -/
theorem packWord_fields (w : Word) : packWord (fieldOp w) (fieldSel w) (fieldImm w) = w := by
  have hhigh : fieldOp w ++ fieldSel w = w.extractLsb' 8 8 := BitVec.extractLsb'_append_extractLsb'_eq_extractLsb' rfl
  have hword : w.extractLsb' 8 8 ++ fieldImm w = w.extractLsb' 0 16 :=
    BitVec.extractLsb'_append_extractLsb'_eq_extractLsb' rfl
  rw [packWord, hhigh, hword, BitVec.extractLsb'_eq_self]

theorem packWord_eq_iff {op sel : BitVec 4} {imm : Byte} {w : Word} :
    packWord op sel imm = w ↔ fieldOp w = op ∧ fieldSel w = sel ∧ fieldImm w = imm := by
  constructor
  · rintro rfl
    exact ⟨fieldOp_pack op sel imm, fieldSel_pack op sel imm, fieldImm_pack op sel imm⟩
  · rintro ⟨rfl, rfl, rfl⟩
    exact packWord_fields w

/-- A mask acts on each field of a word. -/
theorem packWord_and_packWord (op sel op' sel' : BitVec 4) (imm imm' : Byte) :
    packWord op sel imm &&& packWord op' sel' imm' = packWord (op &&& op') (sel &&& sel') (imm &&& imm') := by
  simp only [packWord, ← BitVec.and_append]

/-- A match and a mask of R65, field by field. -/
theorem and_packWord_eq_iff {w : Word} {opMask selMask op sel : BitVec 4} {immMask imm : Byte} :
    w &&& packWord opMask selMask immMask = packWord op sel imm ↔
      fieldOp w &&& opMask = op ∧ fieldSel w &&& selMask = sel ∧ fieldImm w &&& immMask = imm := by
  conv_lhs => rw [← packWord_fields w, packWord_and_packWord, packWord_eq_iff]
  rw [fieldOp_pack, fieldSel_pack, fieldImm_pack, eq_comm, @eq_comm _ sel, @eq_comm _ imm]

theorem toNat_fieldOp (w : Word) : (fieldOp w).toNat = w.toNat / 4096 := by
  simp only [fieldOp, BitVec.extractLsb'_toNat, Nat.shiftRight_eq_div_pow]
  omega

theorem toNat_fieldSel (w : Word) : (fieldSel w).toNat = w.toNat / 256 % 16 := by
  simp only [fieldSel, BitVec.extractLsb'_toNat, Nat.shiftRight_eq_div_pow, Nat.reducePow]

theorem toNat_fieldImm (w : Word) : (fieldImm w).toNat = w.toNat % 256 := by
  simp only [fieldImm, BitVec.extractLsb'_toNat, Nat.shiftRight_zero, Nat.reducePow]

theorem toNat_selHigh (sel : BitVec 4) : (selHigh sel).toNat = sel.toNat / 4 := by
  simp only [selHigh, BitVec.extractLsb'_toNat, Nat.shiftRight_eq_div_pow]
  omega

theorem toNat_selLow (sel : BitVec 4) : (selLow sel).toNat = sel.toNat % 4 := by
  simp only [selLow, BitVec.extractLsb'_toNat, Nat.shiftRight_zero, Nat.reducePow]

/-! ### The operand codes -/

@[simp] theorem Button.ofCode_code (b : Button) : Button.ofCode b.code = b := by
  cases b <;> rfl

@[simp] theorem Button.code_ofCode (k : BitVec 4) : (Button.ofCode k).code = k := by
  revert k
  decide

@[simp] theorem Axis.ofCode_code (a : Axis) : Axis.ofCode a.code = a := by
  cases a <;> rfl

@[simp] theorem Axis.code_ofCode (k : BitVec 2) : (Axis.ofCode k).code = k := by
  revert k
  decide

/-- A selector whose high half is zero is its low half, zero-extended (R64). -/
theorem zeroExtend_selLow_iff {sel : BitVec 4} : (selLow sel).zeroExtend 4 = sel ↔ selHigh sel = 0 := by
  revert sel
  decide

@[simp] theorem selLow_zeroExtend (k : BitVec 2) : selLow (k.zeroExtend 4) = k := by
  revert k
  decide

@[simp] theorem selHigh_zeroExtend (k : BitVec 2) : selHigh (k.zeroExtend 4) = 0 := by
  revert k
  decide

/-! ### The round trip -/

/-- Settles O4: each row's fields pass the checks of its opcode, and a frame's selector announces its length. -/
theorem decodeOfEncode : Obligations.DecodeOfEncode := by
  intro i hwf
  cases i with
  | revbuf p | xchg p =>
    have hlen := frame_length p hwf
    simp [encode, decode, Decoded.require, Instr.coreForm, fieldOp_pack, fieldSel_pack, hlen]
  | revb | poll | btn | btns | stick | btnButtons =>
    simp [encode, decode, Decoded.require, Instr.coreForm, fieldOp_pack, fieldSel_pack]

/-- The selector of a frame is the one that announces its length (R62). -/
theorem lengthSel_eq_iff {p : List Byte} {sel : BitVec 4} :
    p.length = sel.toNat + 1 ↔ lengthSel p = sel ∧ frameFits p = true := by
  constructor
  · intro h
    exact ⟨by simp [lengthSel, h], frameFits_of_sel h⟩
  · rintro ⟨rfl, hfits⟩
    exact (frame_length p hfits).symm

/-- What decodes is of one of the rows of R65, and the row's checks leave no field of the word free. -/
theorem encode_of_decode {cmd : Command} {i : Instr} (h : decode cmd = .command i) :
    encode i = cmd ∧ i.coreForm = i := by
  obtain ⟨w, p⟩ := cmd
  rw [← packWord_fields w] at h ⊢
  generalize fieldOp w = op, fieldSel w = sel, fieldImm w = imm at h ⊢
  have hself : op = BitVec.ofNat 4 op.toNat := by simp
  simp only [decode, fieldOp_pack, fieldSel_pack, fieldImm_pack] at h
  split at h <;> rename_i hop <;>
    simp only [require_eq_command, Decoded.command.injEq, beq_iff_eq, List.length_eq_zero_iff, reduceCtorEq] at h <;>
    rw [hop] at hself <;> subst hself
  case h_1 =>
    obtain ⟨rfl, rfl, rfl⟩ := h
    exact ⟨rfl, rfl⟩
  case h_2 | h_3 =>
    obtain ⟨rfl, hlen, rfl⟩ := h
    obtain ⟨rfl, -⟩ := lengthSel_eq_iff.1 hlen
    exact ⟨rfl, rfl⟩
  case h_4 | h_6 =>
    obtain ⟨rfl, rfl, rfl, rfl⟩ := h
    exact ⟨rfl, rfl⟩
  case h_5 =>
    obtain ⟨rfl, rfl, rfl⟩ := h
    exact ⟨by simp [encode], rfl⟩
  case h_7 =>
    obtain ⟨hhigh, rfl, rfl, rfl⟩ := h
    exact ⟨by simp [encode, zeroExtend_selLow_iff.2 hhigh], rfl⟩

/-- Settles O5: the row it is of, and the well-formedness of all that decodes. -/
theorem encodeOfDecode : Obligations.EncodeOfDecode := fun _ _ h =>
  have ⟨hencode, hcore⟩ := encode_of_decode h
  ⟨hencode, decode_wf h, hcore⟩

/-- The commands that decode are the encodings of the well-formed core instructions, and nothing else. -/
theorem decode_eq_command_iff {cmd : Command} {i : Instr} :
    decode cmd = .command i ↔ encode i = cmd ∧ i.wf = true ∧ i.coreForm = i := by
  constructor
  · exact encodeOfDecode cmd i
  · rintro ⟨rfl, hwf, hcore⟩
    rw [decodeOfEncode i hwf, hcore]

theorem exists_illegal_iff {cmd : Command} :
    (∃ why, decode cmd = .illegal why) ↔ ∀ i, decode cmd ≠ .command i := by
  cases decode cmd <;> simp

/-! ### The rows of R65, field by field -/

section

variable {w : Word} {p q : List Byte} {i : Instr} {op sel : BitVec 4} {imm : Byte}

/-- The row of an instruction without a payload. -/
theorem decode_iff_of_encode (hencode : encode i = ⟨packWord op sel imm, []⟩) (hwf : i.wf = true)
    (hcore : i.coreForm = i) :
    decode ⟨w, p⟩ = .command i ↔ fieldOp w = op ∧ fieldSel w = sel ∧ fieldImm w = imm ∧ p = [] := by
  simp [decode_eq_command_iff, hencode, hwf, hcore, packWord_eq_iff, and_assoc]

/-- The row of an instruction with a frame: the selector announces its length (R60, R62). -/
theorem decode_iff_of_encode_frame (hencode : encode i = ⟨packWord op (lengthSel q) 0, q⟩)
    (hwf : i.wf = frameFits q) (hcore : i.coreForm = i) :
    decode ⟨w, p⟩ = .command i ↔
      fieldOp w = op ∧ fieldImm w = 0 ∧ p.length = (fieldSel w).toNat + 1 ∧ q = p := by
  rw [decode_eq_command_iff, hencode, hwf, Command.mk.injEq, packWord_eq_iff]
  constructor
  · rintro ⟨⟨⟨hop, hsel, himm⟩, rfl⟩, hfits, -⟩
    exact ⟨hop, himm, lengthSel_eq_iff.2 ⟨hsel.symm, hfits⟩, rfl⟩
  · rintro ⟨hop, himm, hlen, rfl⟩
    obtain ⟨hsel, hfits⟩ := lengthSel_eq_iff.1 hlen
    exact ⟨⟨⟨hop, hsel.symm, himm⟩, rfl⟩, hfits, hcore⟩

theorem decode_revb_iff {v : Byte} :
    decode ⟨w, p⟩ = .command (.revb v) ↔ fieldOp w = 1 ∧ fieldSel w = 0 ∧ fieldImm w = v ∧ p = [] :=
  decode_iff_of_encode rfl rfl rfl

theorem decode_revbuf_iff : decode ⟨w, p⟩ = .command (.revbuf q) ↔
    fieldOp w = 2 ∧ fieldImm w = 0 ∧ p.length = (fieldSel w).toNat + 1 ∧ q = p :=
  decode_iff_of_encode_frame rfl rfl rfl

theorem decode_xchg_iff : decode ⟨w, p⟩ = .command (.xchg q) ↔
    fieldOp w = 3 ∧ fieldImm w = 0 ∧ p.length = (fieldSel w).toNat + 1 ∧ q = p :=
  decode_iff_of_encode_frame rfl rfl rfl

theorem decode_poll_iff :
    decode ⟨w, p⟩ = .command .poll ↔ fieldOp w = 4 ∧ fieldSel w = 0 ∧ fieldImm w = 0 ∧ p = [] :=
  decode_iff_of_encode rfl rfl rfl

theorem decode_btn_iff {b : Button} : decode ⟨w, p⟩ = .command (.btn b) ↔
    fieldOp w = 5 ∧ fieldSel w = b.code ∧ fieldImm w = 0 ∧ p = [] :=
  decode_iff_of_encode rfl rfl rfl

theorem decode_btns_iff :
    decode ⟨w, p⟩ = .command .btns ↔ fieldOp w = 6 ∧ fieldSel w = 0 ∧ fieldImm w = 0 ∧ p = [] :=
  decode_iff_of_encode rfl rfl rfl

theorem decode_stick_iff {a : Axis} : decode ⟨w, p⟩ = .command (.stick a) ↔
    fieldOp w = 7 ∧ fieldSel w = a.code.zeroExtend 4 ∧ fieldImm w = 0 ∧ p = [] :=
  decode_iff_of_encode rfl rfl rfl

theorem decode_ne_btnButtons : decode ⟨w, p⟩ ≠ .command .btnButtons := by
  simp [decode_eq_command_iff, Instr.coreForm]

end

/-! ### R66's chain of conditions, and what follows from it -/

/-- Settles O2: each condition gives the fields of its row, and a command that decodes has the fields of one. -/
theorem decodeFollowsItsConditions : Obligations.DecodeFollowsItsConditions := by
  intro w p
  simp only [← toNat_fieldOp, ← toNat_fieldSel, ← toNat_fieldImm, ← toNat_selHigh, ← toNat_selLow,
    List.length_eq_zero_iff]
  split_ifs with hrevb hrevbuf hxchg hpoll hbtn hbtns hstick
  · obtain ⟨hop, hsel, hlen⟩ := hrevb
    exact decode_revb_iff.2 ⟨BitVec.eq_of_toNat_eq hop, BitVec.eq_of_toNat_eq hsel, by simp, hlen⟩
  · obtain ⟨hop, himm, hlen⟩ := hrevbuf
    exact decode_revbuf_iff.2 ⟨BitVec.eq_of_toNat_eq hop, BitVec.eq_of_toNat_eq himm, hlen, rfl⟩
  · obtain ⟨hop, himm, hlen⟩ := hxchg
    exact decode_xchg_iff.2 ⟨BitVec.eq_of_toNat_eq hop, BitVec.eq_of_toNat_eq himm, hlen, rfl⟩
  · obtain ⟨hop, hsel, himm, hlen⟩ := hpoll
    exact decode_poll_iff.2
      ⟨BitVec.eq_of_toNat_eq hop, BitVec.eq_of_toNat_eq hsel, BitVec.eq_of_toNat_eq himm, hlen⟩
  · obtain ⟨hop, himm, hlen⟩ := hbtn
    exact ⟨Button.ofCode (fieldSel w), decode_btn_iff.2
      ⟨BitVec.eq_of_toNat_eq hop, by simp, BitVec.eq_of_toNat_eq himm, hlen⟩, by simp⟩
  · obtain ⟨hop, hsel, himm, hlen⟩ := hbtns
    exact decode_btns_iff.2
      ⟨BitVec.eq_of_toNat_eq hop, BitVec.eq_of_toNat_eq hsel, BitVec.eq_of_toNat_eq himm, hlen⟩
  · obtain ⟨hop, hhigh, himm, hlen⟩ := hstick
    have hsel := zeroExtend_selLow_iff.2 (BitVec.eq_of_toNat_eq hhigh)
    exact ⟨Axis.ofCode (selLow (fieldSel w)), decode_stick_iff.2
      ⟨BitVec.eq_of_toNat_eq hop, by rw [Axis.code_ofCode, hsel], BitVec.eq_of_toNat_eq himm, hlen⟩, by simp⟩
  · refine exists_illegal_iff.2 fun i hi => ?_
    cases i with
    | revb v =>
      obtain ⟨hop, hsel, -, hlen⟩ := decode_revb_iff.1 hi
      exact hrevb (by simp [hop, hsel, hlen])
    | revbuf q =>
      obtain ⟨hop, himm, hlen, -⟩ := decode_revbuf_iff.1 hi
      exact hrevbuf (by simp [hop, himm, hlen])
    | xchg q =>
      obtain ⟨hop, himm, hlen, -⟩ := decode_xchg_iff.1 hi
      exact hxchg (by simp [hop, himm, hlen])
    | poll =>
      obtain ⟨hop, hsel, himm, hlen⟩ := decode_poll_iff.1 hi
      exact hpoll (by simp [hop, hsel, himm, hlen])
    | btn b =>
      obtain ⟨hop, -, himm, hlen⟩ := decode_btn_iff.1 hi
      exact hbtn (by simp [hop, himm, hlen])
    | btns =>
      obtain ⟨hop, hsel, himm, hlen⟩ := decode_btns_iff.1 hi
      exact hbtns (by simp [hop, hsel, himm, hlen])
    | stick a =>
      obtain ⟨hop, hsel, himm, hlen⟩ := decode_stick_iff.1 hi
      exact hstick (by rw [hop, hsel, himm, hlen, selHigh_zeroExtend]; decide)
    | btnButtons => exact decode_ne_btnButtons hi

/-- Settles O6: R66's conditions ask for the payload length, each with its opcode. -/
theorem payloadLengthFixedByWord : Obligations.PayloadLengthFixedByWord := by
  intro w p i h
  have hchain := decodeFollowsItsConditions w p
  dsimp only at hchain
  split_ifs at hchain
  on_goal 8 =>
    obtain ⟨why, hillegal⟩ := hchain
    simp [h] at hillegal
  all_goals split_ifs <;> omega

/-- Settles O7: a reserved encoding of R67 fails each of R66's conditions, and then a busy block's step is
ILLEGAL's (R101). -/
theorem reservedEncodingsOnlyRespond : Obligations.ReservedEncodingsOnlyRespond := by
  intro w p op sel imm hreserved
  have hillegal : ∃ why, decode ⟨w, p⟩ = .illegal why := by
    have hchain := decodeFollowsItsConditions w p
    dsimp only at hchain
    split_ifs at hchain
    on_goal 8 => exact hchain
    all_goals omega
  refine ⟨hillegal, fun s hbusy hcur hlevel => ?_⟩
  obtain ⟨why, hdec⟩ := hillegal
  exact ⟨_, step_of_illegal hlevel hbusy (hcur ▸ hdec), raiseIllegal_respondsOnly _⟩

/-! ### The match and mask table -/

section

variable (w : Word) (op : BitVec 4)

/-- REVB's mask leaves the immediate free. -/
theorem and_FF00_iff : w &&& 0xFF00 = packWord op 0 0 ↔ fieldOp w = op ∧ fieldSel w = 0 := by
  rw [show (0xFF00 : Word) = packWord (BitVec.allOnes 4) (BitVec.allOnes 4) 0 from rfl, and_packWord_eq_iff]
  simp only [BitVec.and_allOnes, BitVec.ofNat_eq_ofNat, BitVec.and_zero, and_true]

/-- The mask of REVBUF, XCHG and BTN leaves the selector free. -/
theorem and_F0FF_iff : w &&& 0xF0FF = packWord op 0 0 ↔ fieldOp w = op ∧ fieldImm w = 0 := by
  rw [show (0xF0FF : Word) = packWord (BitVec.allOnes 4) 0 (BitVec.allOnes 8) from rfl, and_packWord_eq_iff]
  simp only [BitVec.and_allOnes, BitVec.ofNat_eq_ofNat, BitVec.and_zero, true_and]

/-- The mask of POLL and BTNS leaves nothing free. -/
theorem and_FFFF_iff : w &&& 0xFFFF = packWord op 0 0 ↔ fieldOp w = op ∧ fieldSel w = 0 ∧ fieldImm w = 0 := by
  rw [show (0xFFFF : Word) = packWord (BitVec.allOnes 4) (BitVec.allOnes 4) (BitVec.allOnes 8) from rfl,
    and_packWord_eq_iff]
  simp only [BitVec.and_allOnes]

/-- STICK's mask leaves the low half of the selector free. -/
theorem and_FCFF_iff :
    w &&& 0xFCFF = packWord op 0 0 ↔ fieldOp w = op ∧ selHigh (fieldSel w) = 0 ∧ fieldImm w = 0 := by
  have hmask : ∀ sel : BitVec 4, sel &&& 0xC = 0 ↔ selHigh sel = 0 := by decide
  rw [show (0xFCFF : Word) = packWord (BitVec.allOnes 4) 0xC (BitVec.allOnes 8) from rfl, and_packWord_eq_iff, hmask]
  simp only [BitVec.and_allOnes]

end

/-- Every selector is a button's code (R63). -/
theorem exists_eq_button_code (sel : BitVec 4) : ∃ b : Button, sel = b.code :=
  ⟨Button.ofCode sel, by simp⟩

/-- The selectors that are an axis's code are those whose high half is zero (R64). -/
theorem exists_eq_axis_code_iff {sel : BitVec 4} : (∃ a : Axis, sel = a.code.zeroExtend 4) ↔ selHigh sel = 0 := by
  constructor
  · rintro ⟨a, rfl⟩
    exact selHigh_zeroExtend a.code
  · intro hhigh
    exact ⟨Axis.ofCode (selLow sel), by rw [Axis.code_ofCode, zeroExtend_selLow_iff.2 hhigh]⟩

/-- Settles O3: each mask and match fix the fields that the row of the mnemonic fixes. -/
theorem matchAndMaskSelectTheCommand : Obligations.MatchAndMaskSelectTheCommand := by
  intro w p
  rw [← toNat_fieldSel]
  refine ⟨?_, ?_, ?_, ?_, ?_, ?_, ?_⟩
  · rw [show w &&& 0xFF00 = 0x1000 ↔ _ from and_FF00_iff w 1]
    simp [decode_revb_iff, and_assoc]
  · rw [show w &&& 0xF0FF = 0x2000 ↔ _ from and_F0FF_iff w 2]
    simp [decode_revbuf_iff, and_assoc]
  · rw [show w &&& 0xF0FF = 0x3000 ↔ _ from and_F0FF_iff w 3]
    simp [decode_xchg_iff, and_assoc]
  · rw [show w &&& 0xFFFF = 0x4000 ↔ _ from and_FFFF_iff w 4]
    simp [decode_poll_iff, and_assoc]
  · rw [show w &&& 0xF0FF = 0x5000 ↔ _ from and_F0FF_iff w 5]
    simp [decode_btn_iff, exists_eq_button_code, and_assoc]
  · rw [show w &&& 0xFFFF = 0x6000 ↔ _ from and_FFFF_iff w 6]
    simp [decode_btns_iff, and_assoc]
  · rw [show w &&& 0xFCFF = 0x7000 ↔ _ from and_FCFF_iff w 7, ← exists_eq_axis_code_iff]
    simp only [decode_stick_iff, exists_and_left, exists_and_right, and_assoc]

/-! ### Fixed words, the assembler, and the pseudo-instruction -/

/-- Settles O1: the decoder, evaluated. -/
theorem specWordsDecode : Obligations.SpecWordsDecode := by
  unfold Obligations.SpecWordsDecode
  decide

/-- Settles O8: the assembler, evaluated. -/
theorem assemblerForms : Obligations.AssemblerForms := by
  unfold Obligations.AssemblerForms
  decide

/-- Settles O17: `BTN Buttons` has the word and the meaning of `BTNS`, a query's response. -/
theorem btnButtonsIsBtns : Obligations.BtnButtonsIsBtns :=
  ⟨rfl, fun s => ⟨_, rfl, rfl, _, respond_respondsOnly .ok _ [] s, fun h => by simp [whenConnected, h]⟩⟩

end Sys2Proof

/-! The bit-reversal codec (`40_bit_reversal.md`): reversal of bytes and buffers, and the commands REVB and REVBUF. -/

namespace Sys2Proof.Machine

/-! ### Reversal of a byte and of a buffer -/

/-- `reverse_buffer` is `rev8` of each element (R74). -/
theorem reverseBuffer_eq_map (l : List Byte) : reverseBuffer l = l.map rev8 := by
  rw [reverseBuffer, reverseBits_eq_rev8]

/-- `reverse_buffer` undoes itself (R76), because `rev8` does. -/
theorem reverseBuffer_reverseBuffer (l : List Byte) : reverseBuffer (reverseBuffer l) = l := by
  have hbyte : rev8 ∘ rev8 = id := funext rev8_rev8
  rw [reverseBuffer_eq_map, reverseBuffer_eq_map, List.map_map, hbyte, List.map_id]

/-- Settles O10: the ROM reverses bits, which is an involution, and a buffer is mapped element by element. -/
theorem reverseBufferIsAnInvolution : Obligations.ReverseBufferIsAnInvolution := by
  refine ⟨fun v => ?_, fun l => ⟨reverseBuffer_reverseBuffer l, ?_, fun i => ?_⟩⟩
  · rw [reverseBits_eq_rev8, rev8_rev8]
  · rw [reverseBuffer_eq_map, List.length_map]
  · rw [reverseBuffer_eq_map, List.getElem?_map]

/-- Settles O11: the ROM reverses bits, and `rev8` is evaluated at each of the 256 bytes. -/
theorem palindromesAreFixed : Obligations.PalindromesAreFixed := by
  intro v
  rw [reverseBits_eq_rev8]
  revert v
  decide

end Sys2Proof.Machine

namespace Sys2Proof

open Machine
open Laws.EncodedLength (fieldOp_pack frame_length)

/-! ### Words as numbers, and the malformed commands of an opcode -/

/-- A word as the number its three fields spell (R59). -/
theorem packWord_eq_ofNat (op sel : BitVec 4) (imm : Byte) :
    packWord op sel imm = BitVec.ofNat 16 (0x1000 * op.toNat + 0x100 * sel.toNat + imm.toNat) := by
  have hsel : sel.toNat < 16 := sel.isLt
  have himm : imm.toNat < 256 := imm.isLt
  refine packWord_eq_iff.2 ⟨BitVec.eq_of_toNat_eq ?_, BitVec.eq_of_toNat_eq ?_, BitVec.eq_of_toNat_eq ?_⟩
  · rw [toNat_fieldOp, BitVec.toNat_ofNat]
    omega
  · rw [toNat_fieldSel, BitVec.toNat_ofNat]
    omega
  · rw [toNat_fieldImm, BitVec.toNat_ofNat]
    omega

/-- The malformed commands of an opcode are ILLEGAL (R67) where whatever decodes to an instruction with that
opcode is well-formed. -/
theorem illegalUnless_of_decode {op : BitVec 4} {ok : Word → List Byte → Prop}
    (h : ∀ w p i, fieldOp (encode i).word = op → decode ⟨w, p⟩ = .command i → ok w p) :
    IllegalUnless op.toNat ok := by
  intro w p hop hbad
  refine exists_illegal_iff.2 fun i hdec => hbad (h w p i ?_ hdec)
  rw [(encode_of_decode hdec).1]
  exact BitVec.eq_of_toNat_eq ((toNat_fieldOp w).trans hop)

/-! ### REVB and REVBUF -/

theorem illegalUnless_revb : IllegalUnless 1 fun w p => w &&& 0xFF00 = 0x1000 ∧ p = [] := by
  refine illegalUnless_of_decode (op := 1) fun w p i hop hdec => ?_
  cases i with
  | revb v =>
    obtain ⟨hrow, -⟩ := matchAndMaskSelectTheCommand w p
    exact hrow.1 ⟨v, hdec⟩
  | revbuf | xchg | poll | btn | btns | stick | btnButtons => simp [encode, fieldOp_pack] at hop

theorem illegalUnless_revbuf :
    IllegalUnless 2 fun w p => w &&& 0xF0FF = 0x2000 ∧ p.length = w.toNat / 256 % 16 + 1 := by
  refine illegalUnless_of_decode (op := 2) fun w p i hop hdec => ?_
  cases i with
  | revbuf q =>
    obtain ⟨-, -, -, rfl⟩ := decode_revbuf_iff.1 hdec
    obtain ⟨-, hrow, -⟩ := matchAndMaskSelectTheCommand w q
    exact hrow.1 hdec
  | revb | xchg | poll | btn | btns | stick | btnButtons => simp [encode, fieldOp_pack] at hop

/-- Settles O12: the command is the one `encode` gives, and `execRevb` is a response of the reversed byte. -/
theorem revbReversesItsByte : Obligations.RevbReversesItsByte := by
  refine ⟨fun v => ?_, illegalUnless_revb, fun v s => ⟨_, rfl, ?_⟩⟩
  · have hword : 0x1000#16 ||| v.zeroExtend 16 = packWord 1 0 v := rfl
    rw [hword]
    exact decodeOfEncode (.revb v) rfl
  · rw [reverseBits_eq_rev8]
    exact respond_respondsOnly .ok _ [] s

/-- Settles O13: the command is the one `encode` gives, and `execRevbuf` is a response of the reversed payload. -/
theorem revbufReversesItsPayload : Obligations.RevbufReversesItsPayload := by
  refine ⟨fun p hmin hmax => ?_, illegalUnless_revbuf, fun p s => ⟨_, rfl, ?_⟩⟩
  · have hfits : frameFits p = true := decide_eq_true ⟨hmin, hmax⟩
    have hsel : (lengthSel p).toNat = p.length - 1 := Nat.eq_sub_of_add_eq (frame_length p hfits)
    have hword : packWord 2 (lengthSel p) 0 = BitVec.ofNat 16 (0x2000 + 0x100 * (p.length - 1)) := by
      rw [packWord_eq_ofNat, hsel]
      rfl
    rw [← hword]
    exact decodeOfEncode (.revbuf p) hfits
  · rw [reverseBuffer_eq_map]
    exact respond_respondsOnly .ok 0 _ s

end Sys2Proof

/-! The frame transceiver (`41_frame_transceiver.md`): the exchange of XCHG and POLL step by step, the whole run of an
XCHG and of a failed exchange, and how a select frame closes. -/

namespace Sys2Proof.Machine

/-! ### What a command that exchanges a frame does at each position -/

section
variable {i : Instr} {p : List Byte} {s : State}

theorem exec_of_entry (hframe : exchangeFrame i = some p) (hstage : s.stage = .entry) :
    exec i s = .next (beginExchange p s) := by
  simp [exec_of_frame hframe, exchangeStep, hstage]

theorem exec_of_transfer (hframe : exchangeFrame i = some p) (hstage : s.stage = .framing)
    (hidx : s.xidx < p.length) : exec i s = transfer s := by
  simp [exec_of_frame hframe, exchangeStep, hstage, hidx]

theorem exec_of_last_transfer_done (hframe : exchangeFrame i = some p) (hstage : s.stage = .framing)
    (hidx : p.length ≤ s.xidx) : exec i s = .next (endExchange s) := by
  simp [exec_of_frame hframe, exchangeStep, hstage, hidx.not_gt]

theorem exec_of_failing (hframe : exchangeFrame i = some p) (hstage : s.stage = .failing) :
    exec i s = .next (abortExchange s) := by
  simp [exec_of_frame hframe, exchangeStep, hstage]

theorem exec_of_done (hframe : exchangeFrame i = some p) (hstage : s.stage = .done) :
    exec i s = .next (exchangeFinish i (receivedFrame p.length s) (forgetBuffers s)) := by
  simp [exec_of_frame hframe, exchangeStep, hstage]

theorem exec_of_failed (hframe : exchangeFrame i = some p) (hstage : s.stage = .failed) :
    exec i s = .next (raiseXferError s) := by
  simp [exec_of_frame hframe, exchangeStep, hstage]

end

/-! ### The exchange, step by step -/

/-- Settles O21: the first step is `beginExchange`, whose transmit buffer is the frame reversed byte by byte. -/
theorem exchangeBeginsBySelecting : Obligations.ExchangeBeginsBySelecting := by
  intro i p s hframe hstage
  refine ⟨_, exec_of_entry hframe hstage, beginExchange_continues p s, rfl, rfl, rfl, rfl, rfl, rfl, fun k => ?_⟩
  rw [beginExchange_txb, loadTxb_get, reverseBits_eq_rev8]

/-- Settles O22: before the last position the step is a transfer, and an answered byte changes its own entry of `RXB`
and no other. -/
theorem transferStoresTheAnswer : Obligations.TransferStoresTheAnswer := by
  intro i p s r rest hframe _ hstage hidx hans
  have htransfer := transfer_of_byte hans
  exact ⟨_, (exec_of_transfer hframe hstage hidx).trans htransfer, transfer_continues htransfer, hstage, rfl, rfl, rfl,
    rfl, rfl, setIfInBounds_get s.rxb s.xidx r⟩

/-- Settles O23: the positions after a failed transfer are those of the deassertion and of the response. -/
theorem failedTransferEndsTheExchange : Obligations.FailedTransferEndsTheExchange := by
  intro i p s rest hframe hstage hidx hans hcan
  have htransfer := transfer_of_fail hans hcan
  have hfails := (exec_of_transfer hframe hstage hidx).trans htransfer
  have haborts := exec_of_failing (s := failTransfer { s with answers := rest }) hframe rfl
  have hreports := exec_of_failed (s := abortExchange (failTransfer { s with answers := rest })) hframe rfl
  exact ⟨_, _, _, hfails, transfer_continues htransfer, rfl, rfl, rfl, rfl, rfl, rfl, rfl,
    haborts, abortExchange_continues _, rfl, rfl, rfl, rfl, rfl, rfl, rfl,
    hreports, raiseXferError_endsExchange _, raiseXferError_snap _, raiseXferError_connected _⟩

/-- Settles O24: at the position after the last transfer the step is `endExchange`. -/
theorem exchangeEndsByDeselecting : Obligations.ExchangeEndsByDeselecting := by
  intro i p s hframe hstage hidx
  exact ⟨_, exec_of_last_transfer_done hframe hstage hidx.ge, endExchange_continues s, rfl, rfl, rfl, rfl, rfl, rfl,
    rfl⟩

/-- Settles O25: XCHG's own last step is a response of the received frame, its buffers done with. -/
theorem xchgAnswersTheReceivedFrame : Obligations.XchgAnswersTheReceivedFrame := by
  intro p s hstage
  refine ⟨_, exec_of_done (i := .xchg p) rfl hstage, ?_, rfl, rfl⟩
  rw [← receivedFrame_eq_map]
  exact respond_forgetBuffers_endsExchange .ok 0 _ s

/-! ### Whole commands -/

/-- Settles O30: the run of a whole exchange, with XCHG's response as its last step. -/
theorem xchgRunExchangesTheFrame : Obligations.XchgRunExchangesTheFrame := by
  intro s w p rs cmds more hphase hin hport hdec hlen hans
  refine ⟨_, runSteps_exchange hphase hport hdec rfl hlen (.of_empty _ hin) hans, ?_, rfl, rfl, rfl, rfl, rfl, hlen,
    rfl, rfl, rfl⟩
  simp [exchangeFinish, exchanging, accepted]

section
variable {s : State} {cmd : Command} {cmds : List Command} {i : Instr} {p rs : List Byte} {more : List Answer}

/-- A transfer of an exchange under way, the next answer `FAIL` (R84). -/
theorem step_fails (n : Nat) (hdec : decode cmd = .command i) (hframe : exchangeFrame i = some p)
    (hlen : rs.length < p.length) (hcan : s.xferCanFail = true)
    (hrst : rstNow (accepted cmd cmds n (.fail :: more) s) = false) :
    step (exchanging p rs (accepted cmd cmds n (.fail :: more) s)) =
      .next (failTransfer (exchanging p rs (accepted cmd cmds (n + 1) more s))) := by
  rw [step_exchanging n hdec hframe hrst]
  exact (if_pos hlen).trans (transfer_of_fail rfl hcan)

/-- The step after a failed transfer deasserts select (R84, R86). -/
theorem step_aborts (n : Nat) (hdec : decode cmd = .command i) (hframe : exchangeFrame i = some p)
    (hrst : rstNow (accepted cmd cmds n more s) = false) :
    step (failTransfer (exchanging p rs (accepted cmd cmds n more s))) =
      .next (abortExchange (failTransfer (exchanging p rs (accepted cmd cmds (n + 1) more s)))) := by
  rw [← accepted_sampled cmd cmds n]
  exact (step_of_command (s := failTransfer (exchanging p rs (accepted cmd cmds n more s))) hrst rfl hdec).trans
    (exec_of_failing hframe rfl)

/-- Select deasserted after a failed transfer, the command answers XFER_ERR (R102). -/
theorem step_reports (n : Nat) (hdec : decode cmd = .command i) (hframe : exchangeFrame i = some p)
    (hrst : rstNow (accepted cmd cmds n more s) = false) :
    step (abortExchange (failTransfer (exchanging p rs (accepted cmd cmds n more s)))) =
      .next (raiseXferError (abortExchange (failTransfer (exchanging p rs (accepted cmd cmds (n + 1) more s))))) := by
  rw [← accepted_sampled cmd cmds n]
  exact (step_of_command (s := abortExchange (failTransfer (exchanging p rs (accepted cmd cmds n more s)))) hrst rfl
    hdec).trans (exec_of_failed hframe rfl)

/-- An idle block with a command of the frame `p` at its port, `j` answering bytes, fewer than the frame has, and then
`FAIL` has, after `j + 3` steps, made `j` transfers and failed the next (R80, R84). -/
theorem runSteps_failing (hphase : s.phase = .idle) (hport : s.port = cmd :: cmds)
    (hdec : decode cmd = .command i) (hframe : exchangeFrame i = some p) (hlen : rs.length < p.length)
    (hrst : ReleasedFor (rs.length + 3) s) (hans : s.answers = rs.map .byte ++ .fail :: more)
    (hcan : s.xferCanFail = true) :
    runSteps (rs.length + 3) s =
      .next (failTransfer (exchanging p rs (accepted cmd cmds (rs.length + 3) more s))) :=
  runSteps_snoc (runSteps_exchanging hphase hport hdec hframe hlen.le (hrst.mono (by omega)) hans)
    (step_fails _ hdec hframe hlen hcan (hrst.rstNow_drop (k := rs.length + 2) (by omega) rfl))

/-- A failed exchange command as a whole (R81, R84, R102): two steps after the failed transfer it has deasserted
select and answered XFER_ERR. -/
theorem runSteps_failed (hphase : s.phase = .idle) (hport : s.port = cmd :: cmds)
    (hdec : decode cmd = .command i) (hframe : exchangeFrame i = some p) (hlen : rs.length < p.length)
    (hrst : ReleasedFor (rs.length + 5) s) (hans : s.answers = rs.map .byte ++ .fail :: more)
    (hcan : s.xferCanFail = true) :
    runSteps (rs.length + 5) s = .next (raiseXferError (abortExchange (failTransfer
      (exchanging p rs (accepted cmd cmds (rs.length + 5) more s))))) := by
  have hfailing := runSteps_failing hphase hport hdec hframe hlen (hrst.mono (by omega)) hans hcan
  have habort := step_aborts (rs := rs) (cmds := cmds) (more := more) (rs.length + 3) hdec hframe
    (hrst.rstNow_drop (k := rs.length + 3) (by omega) rfl)
  have hreport := step_reports (rs := rs) (cmds := cmds) (more := more) (rs.length + 4) hdec hframe
    (hrst.rstNow_drop (k := rs.length + 4) (by omega) rfl)
  exact runSteps_snoc (runSteps_snoc hfailing habort) hreport

end

/-- Settles O32: the run of a failed exchange, whose failed transfer sends the wire byte of the next position. -/
theorem failedRunLeavesTheState : Obligations.FailedRunLeavesTheState := by
  intro s cmd i p rs cmds more hphase hin hport hdec hframe hlen hans hcan
  have hp := exchangeFrame_length_le (decode_wf hdec) hframe
  refine ⟨_, runSteps_failed hphase hport hdec hframe hlen (.of_empty _ hin) hans hcan, ?_, raiseXferError_responses _,
    raiseXferError_phase _, raiseXferError_csN _, raiseXferError_snap _, raiseXferError_connected _,
    raiseXferError_port _, raiseXferError_answers _⟩
  rw [raiseXferError_bus, abortExchange_bus, failTransfer_bus, outByte_exchanging _ hp hlen]
  simp [exchanging, accepted]

/-! ### How a select frame closes -/

/-- The moves that take select from asserted to deasserted: the one after the last transfer (R80 step 4) and the one
after a failed transfer (R84). -/
theorem Move.raises_select {s t : State} (h : Move s t) (hlow : s.csN = .low) (hhigh : t.csN = .high) :
    t.bus = s.bus ++ [.csDeassert] ∧ ∃ p, commandFrame s.cur = some p ∧
      ((s.stage = .framing ∧ p.length ≤ s.xidx) ∨ s.stage = .failing) := by
  have hkept (hcs : t.csN = s.csN) : False := by simp [hcs, hlow] at hhigh
  cases h with
  | selects => cases hhigh
  | deselects hphase hframe hstage hidx => exact ⟨rfl, _, hframe, .inl ⟨hstage, hidx⟩⟩
  | aborts hphase hframe hstage => exact ⟨rfl, _, hframe, .inr hstage⟩
  | reports => exact (hkept (raiseXferError_csN s)).elim
  | _ => exact (hkept rfl).elim

section
variable {s : State} {p : List Byte}

/-- Where the exchange has no transfer left, the open select frame holds exactly `N` of them (R81). -/
theorem Inv.busFrame_of_last_transfer_done (h : Inv s) (hframe : commandFrame s.cur = some p)
    (hstage : s.stage = .framing) (hidx : p.length ≤ s.xidx) : busFrame s.bus = some (.opened p.length) := by
  obtain ⟨hle, -⟩ := h.framing hframe hstage
  simpa [hstage, hle.antisymm hidx] using h.framed

/-- After a failed transfer the open select frame ends with it, and it sent the wire byte of the frame's byte, which
`TXB[XIDX]` still holds (R82, R84). -/
theorem Inv.failing_history (h : Inv s) (hframe : commandFrame s.cur = some p) (hstage : s.stage = .failing) :
    busFrame s.bus = some (.broken s.xidx) ∧ outByte s = rev8 (p.getD s.xidx 0) ∧
      ∃ pre, s.bus = pre ++ [.xferFail (outByte s)] := by
  obtain ⟨hidx, htxb, -, pre, hbus⟩ := h.failing hframe hstage
  have hout := outByte_eq_rev8 htxb hidx
  exact ⟨by simpa [hstage] using h.framed, hout, pre ++ exchangeSoFar p s, by rw [hout, ← hbus, List.append_assoc]⟩

end

/-- Settles O50: select goes high by a reset or by one of two moves, for each of which the invariant says what the
frame holds that it closes. -/
theorem selectFramesAreWhole : Obligations.SelectFramesAreWhole := by
  intro s t h hstep hlow hhigh
  obtain ⟨-, -, rfl⟩ | ⟨-, -, rfl⟩ | ⟨-, hmove⟩ := step_next_cases hstep
  · exact .inr (.inr (by simp [hlow, resetEvents]))
  · simp [hlow] at hhigh
  · obtain ⟨hbus, p, hframe, ⟨hstage, hidx⟩ | hstage⟩ := hmove.raises_select hlow hhigh
    · exact .inl ⟨p, hframe, h.busFrame_of_last_transfer_done hframe hstage hidx, hbus⟩
    · obtain ⟨hidx, -, hcan, -⟩ := h.failing hframe hstage
      obtain ⟨hbroken, hout, pre, hhistory⟩ := h.failing_history hframe hstage
      exact .inr (.inl ⟨p, pre, hframe, hidx, hbroken, hhistory, hbus, hout, hcan⟩)

end Sys2Proof.Machine

/-! The queries of the state decoder (`42_state_decoder.md`): the snapshot's bits and readings, and what BTN, BTNS and
STICK answer from them. -/

namespace Sys2Proof.Machine

open Laws.EncodedLength (fieldOp_pack)

/-! ### The snapshot's bits -/

theorem getD_toList_eq_get {n : Nat} (v : Vector Byte n) (k : Fin n) : v.toList.getD k 0 = v.get k := by
  simp [Vector.get_eq_getElem]

theorem twoPow_ne_zero {w k : Nat} (hk : k < w) : BitVec.twoPow w k ≠ 0 := by
  intro h
  simpa [hk] using congrArg (BitVec.getLsbD · k) h

/-- The row of `BTNTAB` for the code `k` names byte `k[3]` and the bit `k[2:0]` (R29). -/
theorem btnTab_eq_code (b : Button) :
    ((btnTab b).index : Nat) = b.code.toNat / 8 ∧ (btnTab b).mask = BitVec.twoPow 8 (b.code.toNat % 8) := by
  cases b <;> exact ⟨rfl, rfl⟩

/-- A button is pressed where its bit of the snapshot is clear (R15, R95). -/
theorem isPressed_eq_not_bit (b : Button) (snap : Vector Byte 6) :
    isPressed b snap = !(snap.toList.getD (b.code.toNat / 8) 0).getLsbD (b.code.toNat % 8) := by
  obtain ⟨hindex, hmask⟩ := btnTab_eq_code b
  have hbit : b.code.toNat % 8 < 8 := Nat.mod_lt _ (by decide)
  rw [isPressed, hmask, ← hindex, getD_toList_eq_get, BitVec.and_twoPow]
  cases (snap.get (btnTab b).index).getLsbD (b.code.toNat % 8) with
  | false => simp
  | true => simpa using twoPow_ne_zero hbit

/-- Bit `k` of the pressed mask is the complement of the snapshot's bit `k` (R96, R45). -/
theorem pressedMask_getLsbD (snap : Vector Byte 6) {k : Nat} (hk : k < 16) :
    (pressedMask snap).getLsbD k = !(snap.toList.getD (k / 8) 0).getLsbD (k % 8) := by
  have hlow : snap.toList.getD 0 0 = snap.get 0 := getD_toList_eq_get snap 0
  have hhigh : snap.toList.getD 1 0 = snap.get 1 := getD_toList_eq_get snap 1
  obtain hbyte | hbyte := Nat.lt_or_ge k 8
  · rw [Nat.div_eq_of_lt hbyte, Nat.mod_eq_of_lt hbyte, hlow]
    simp [pressedMask, hk, hbyte]
  · rw [show k / 8 = 1 by omega, show k % 8 = k - 8 by omega, hhigh]
    simp [pressedMask, hk, hbyte.not_gt, BitVec.getLsbD_of_ge _ k hbyte]

/-- The pressed mask's bit of a button says that it is pressed (R96). -/
theorem pressedMask_getLsbD_code (b : Button) (snap : Vector Byte 6) :
    (pressedMask snap).getLsbD b.code.toNat = isPressed b snap := by
  rw [pressedMask_getLsbD snap b.code.isLt, isPressed_eq_not_bit]

/-! ### The stick values -/

/-- Inverting the top bit of a byte subtracts 128 from it (R98). -/
theorem ofInt_sub_128 (x : Byte) : BitVec.ofInt 8 ((x.toNat : Int) - 128) = x ^^^ 0x80 := by
  revert x
  decide

/-- The stick value is in the range of an 8-bit two's complement number, and sign extension keeps it (R97). -/
theorem toInt_stickWord (a : Axis) (snap : Vector Byte 6) :
    (stickWord a snap).toInt = ((snap.get (axTab a)).toNat : Int) - 128 := by
  have hreading : (snap.get (axTab a)).toNat < 256 := (snap.get (axTab a)).isLt
  rw [stickWord, stickValue, BitVec.toInt_signExtend_of_le (by decide), BitVec.toInt_ofInt]
  exact Int.bmod_eq_of_le (by omega) (by omega)

theorem stickWord_eq_signExtend_xor (a : Axis) (snap : Vector Byte 6) :
    stickWord a snap = (snap.get (axTab a) ^^^ 0x80).signExtend 16 := by
  rw [stickWord, stickValue, ofInt_sub_128]

/-! ### What a query answers -/

theorem whenConnected_of_connected {s : State} (h : s.connected = true) (live : Word) :
    whenConnected s live = live := by
  simp [whenConnected, h]

theorem whenConnected_of_disconnected {s : State} (h : s.connected = false) (live : Word) :
    whenConnected s live = 0 := by
  simp [whenConnected, h]

/-- Every query answers its live value while `CONNECTED` is 1 and 0 while it is 0, and does no more (R20). -/
theorem exec_query {i : Instr} (h : i = .btns ∨ i = .btnButtons ∨ (∃ b, i = .btn b) ∨ ∃ a, i = .stick a) (s : State) :
    ∃ live, exec i s = .next (respond .ok (whenConnected s live) [] s) := by
  obtain rfl | rfl | ⟨b, rfl⟩ | ⟨a, rfl⟩ := h <;> exact ⟨_, rfl⟩

theorem exec_query_of_disconnected {i : Instr} {s : State}
    (h : i = .btns ∨ i = .btnButtons ∨ (∃ b, i = .btn b) ∨ ∃ a, i = .stick a) (hconnected : s.connected = false) :
    exec i s = .next (respond .ok 0 [] s) := by
  obtain ⟨live, hexec⟩ := exec_query h s
  rw [hexec, whenConnected_of_disconnected hconnected]

/-! ### The malformed words of the queries -/

theorem illegalUnless_btn : IllegalUnless 5 fun w p => w &&& 0xF0FF = 0x5000 ∧ p = [] := by
  refine illegalUnless_of_decode (op := 5) fun w p i hop hdec => ?_
  cases i with
  | btn b =>
    obtain ⟨-, -, -, -, hrow, -⟩ := matchAndMaskSelectTheCommand w p
    exact hrow.1 ⟨b, hdec⟩
  | revb | revbuf | xchg | poll | btns | stick | btnButtons => simp [encode, fieldOp_pack] at hop

theorem illegalUnless_btns : IllegalUnless 6 fun w p => w = 0x6000 ∧ p = [] := by
  refine illegalUnless_of_decode (op := 6) fun w p i hop hdec => ?_
  cases i with
  | btns =>
    obtain ⟨hfieldOp, hsel, himm, hp⟩ := decode_btns_iff.1 hdec
    exact ⟨(packWord_eq_iff.2 ⟨hfieldOp, hsel, himm⟩).symm, hp⟩
  | btnButtons => exact absurd hdec decode_ne_btnButtons
  | revb | revbuf | xchg | poll | btn | stick => simp [encode, fieldOp_pack] at hop

theorem illegalUnless_stick : IllegalUnless 7 fun w p => w &&& 0xFCFF = 0x7000 ∧ p = [] := by
  refine illegalUnless_of_decode (op := 7) fun w p i hop hdec => ?_
  cases i with
  | stick a =>
    obtain ⟨-, -, -, -, -, -, hrow⟩ := matchAndMaskSelectTheCommand w p
    exact hrow.1 ⟨a, hdec⟩
  | revb | revbuf | xchg | poll | btn | btns | btnButtons => simp [encode, fieldOp_pack] at hop

/-! ### The queries -/

/-- Settles O14: the command is the one `encode` gives, and the row of `BTNTAB` is the bit its code names. -/
theorem btnAnswersPressed : Obligations.BtnAnswersPressed := by
  refine ⟨fun b => ?_, illegalUnless_btn, fun b s => ⟨_, rfl, ?_⟩⟩
  · have hword : packWord 5 b.code 0 = BitVec.ofNat 16 (0x5000 + 0x100 * b.code.toNat) := packWord_eq_ofNat 5 b.code 0
    rw [← hword]
    exact decodeOfEncode (.btn b) rfl
  · have hanswer : whenConnected s (pressedWord b s.snap) = if s.connected = true ∧
        (s.snap.toList.getD (b.code.toNat / 8) 0).getLsbD (b.code.toNat % 8) = false then 1 else 0 := by
      simp only [whenConnected, pressedWord, isPressed_eq_not_bit, Bool.not_eq_true', ite_and]
    rw [← hanswer]
    exact respond_respondsOnly .ok _ [] s

/-- Settles O15: the answer is the pressed mask, whose definition and whose bits are the two forms asked for. -/
theorem btnsAnswersTheMask : Obligations.BtnsAnswersTheMask := by
  refine ⟨decodeOfEncode .btns rfl, illegalUnless_btns, fun s => ⟨_, _, rfl, respond_respondsOnly .ok _ [] s,
    fun h => whenConnected_of_disconnected h _, fun h => ?_⟩⟩
  rw [whenConnected_of_connected h]
  exact ⟨rfl, fun k hk => pressedMask_getLsbD s.snap hk⟩

/-- Settles O16: while connected both answers say whether the button is pressed, while not both are 0. -/
theorem btnsBitsAreBtnResults : Obligations.BtnsBitsAreBtnResults := by
  intro s b
  refine ⟨_, _, _, _, rfl, rfl, rfl, rfl, ?_⟩
  cases hconnected : s.connected with
  | false => simp [whenConnected_of_disconnected hconnected]
  | true =>
    rw [whenConnected_of_connected hconnected, whenConnected_of_connected hconnected, pressedMask_getLsbD_code]
    rfl

/-- Settles O18: the command is the one `encode` gives, and `stickWord` recentres the reading `AXTAB` names. -/
theorem stickAnswersRecentred : Obligations.StickAnswersRecentred := by
  refine ⟨fun a => ?_, illegalUnless_stick, fun a s => ⟨_, _, rfl, respond_respondsOnly .ok _ [] s,
    fun h => whenConnected_of_disconnected h _, fun h => ?_⟩⟩
  · have hword : packWord 7 (a.code.zeroExtend 4) 0 = BitVec.ofNat 16 (0x7000 + 0x100 * a.code.toNat) := by
      cases a <;> rfl
    rw [← hword]
    exact decodeOfEncode (.stick a) rfl
  · rw [whenConnected_of_connected h]
    cases a <;> exact ⟨toInt_stickWord _ s.snap, stickWord_eq_signExtend_xor _ s.snap⟩

/-- Settles O19: the neutral answer is the same whatever the snapshot holds. -/
theorem queriesAreNeutralWhileDisconnected : Obligations.QueriesAreNeutralWhileDisconnected := by
  intro s i other hconnected hquery
  exact ⟨_, exec_query_of_disconnected hquery hconnected, respond_respondsOnly .ok 0 [] s,
    exec_query_of_disconnected (s := { s with snap := other }) hquery hconnected⟩

end Sys2Proof.Machine

/-! POLL (`42_state_decoder.md`): its wire bytes, its validation and extraction, and its run as a whole. -/

namespace Sys2Proof.Machine

/-! ### The wire bytes of POLL -/

/-- A byte of a reversed frame, 0 past its end as in the frame itself. -/
theorem getD_map_rev8 (p : List Byte) (k : Nat) : (p.map rev8).getD k 0 = rev8 (p.getD k 0) :=
  List.getD_map p 0 rev8

/-- The wire bytes of the poll frame (R93). -/
theorem pollFrame_map_rev8 :
    pollFrame.map rev8 = [0x80, 0x42, 0x00, 0x00, 0x00, 0x00, 0x00, 0x00, 0x00] := by decide

/-- The marker is its own reversal (R93). -/
theorem rev8_eq_marker_iff (r : Byte) : r = 0x5A ↔ rev8 r = 0x5A := by
  have hfixed : rev8 0x5A = 0x5A := rfl
  constructor
  · rintro rfl
    exact hfixed
  · intro h
    rw [← rev8_rev8 r, h, hfixed]

/-- Settles O28: the first step loads the transmit buffer with the reversed poll frame. -/
theorem pollWireBytes : Obligations.PollWireBytes := by
  refine ⟨fun s hstage => ⟨_, exec_of_entry (i := .poll) rfl hstage, ?_⟩, rev8_eq_marker_iff⟩
  rw [beginExchange_txb, ← pollFrame_map_rev8, ← reverseBits_eq_rev8]
  exact loadTxb_take pollFrame s.txb (by decide)

/-- The events of a frame's transfers, by its wire bytes (R82). -/
theorem transferEvents_eq_zipWith (p rs : List Byte) : transferEvents p rs = List.zipWith .xfer (p.map rev8) rs :=
  List.zipWith_map_left.symm

/-- The next transfer of an exchange sends the wire byte of its position (R82). -/
theorem Inv.outByte {s : State} {p : List Byte} (h : Inv s) (hframe : commandFrame s.cur = some p)
    (hstage : s.stage = .framing) (hidx : s.xidx < p.length) : outByte s = (p.map rev8).getD s.xidx 0 := by
  obtain ⟨-, htxb, -⟩ := h.framing hframe hstage
  rw [getD_map_rev8, outByte_eq_rev8 htxb hidx]

/-- Settles O54: while a POLL exchanges, the transmit buffer holds the poll frame's wire bytes; when its transfers are
done, the history ends with its exchange. -/
theorem pollTransmitsItsWireBytes : Obligations.PollTransmitsItsWireBytes := by
  unfold Obligations.PollTransmitsItsWireBytes
  rw [← pollFrame_map_rev8]
  refine ⟨rfl, fun s r rest h hphase hdec hlevel hstage hidx => ?_, fun s h hdec hstage => ?_, rev8_eq_marker_iff⟩
  · have hstep := (step_of_command hlevel hphase hdec).trans (exec_of_transfer
      (s := { s with rstIn := s.rstIn.tail, rst := false }) (p := pollFrame) rfl hstage hidx)
    rw [hstep, ← h.outByte (commandFrame_of_decode hdec) hstage hidx]
    exact ⟨fun hans => ⟨_, transfer_of_byte hans, rfl⟩, fun hans hcan => ⟨_, transfer_of_fail hans hcan, rfl⟩⟩
  · obtain ⟨pre, hbus⟩ := h.polled hdec hstage
    refine ⟨pre, s.rxb.toList.take 9, by simp, ?_⟩
    rw [← hbus, ← transferEvents_eq_zipWith]
    simp

/-! ### POLL's last step -/

/-- The first two bytes of a frame are neither validated nor extracted (R92). -/
theorem finishPoll_congr {r q : List Byte} (h : ∀ k, frameByte r (k + 2) = frameByte q (k + 2)) (s : State) :
    finishPoll r s = finishPoll q s := by
  have hmarker : markerValid r = markerValid q := by rw [markerValid, h 0, markerValid]
  have hpayload : extractPayload r = extractPayload q := by
    refine congrArg Vector.ofFn (funext fun k => ?_)
    rw [show 3 + k.val = k.val + 1 + 2 by omega, h]
  rw [finishPoll, finishPoll, hmarker, storeSnapshot, storeSnapshot, hpayload]

/-- Settles O26: the marker is the reversal of `RXB[2]`, and the payload that of `RXB[3..8]`. -/
theorem pollValidatesAndExtracts : Obligations.PollValidatesAndExtracts := by
  intro s hstage
  refine ⟨_, exec_of_done (i := .poll) rfl hstage, ?_⟩
  have hmarker : markerValid (receivedFrame 9 s) = true ↔ rev8 (s.rxb.get 2) = 0x5A := by
    rw [markerValid_iff, receivedFrame_marker]
  have hpayload : (extractPayload (receivedFrame 9 s)).toList = ((s.rxb.toList.drop 3).take 6).map rev8 := by
    rw [extractPayload_toList (receivedFrame_length 9 s (by decide)), receivedFrame_eq_map, ← List.map_drop,
      List.drop_take]
  split_ifs with hvalid
  · rw [exchangeFinish, pollFrame_length, finishPoll, if_pos (hmarker.2 hvalid)]
    exact ⟨storeSnapshot_endsExchange _ s, rfl, hpayload⟩
  · rw [exchangeFinish, pollFrame_length, finishPoll, if_neg (mt hmarker.1 hvalid)]
    exact ⟨respond_forgetBuffers_endsExchange .ok 0 [] s, rfl, rfl⟩

/-- Settles O27: the received frames agree from byte 2 on, and the buffers are done with either way. -/
theorem pollIgnoresBytesZeroAndOne : Obligations.PollIgnoresBytesZeroAndOne := by
  intro s x y hstage
  have hframe (k : Nat) : frameByte (receivedFrame 9 { s with rxb := (s.rxb.set 0 x).set 1 y }) (k + 2) =
      frameByte (receivedFrame 9 s) (k + 2) := by
    simp [frameByte, receivedFrame_eq_map, List.getElem?_take]
  have hset := exec_of_done (i := .poll) (s := { s with rxb := (s.rxb.set 0 x).set 1 y }) rfl hstage
  rw [hset, exec_of_done (i := .poll) rfl hstage]
  exact congrArg _ (finishPoll_congr hframe _)

/-! ### POLL as a whole -/

/-- What validates the logical frame is the wire byte of position 2 (R89, R93). -/
theorem markerValid_map_rev8 (rs : List Byte) : markerValid (rs.map rev8) = true ↔ rev8 (rs.getD 2 0) = 0x5A := by
  rw [markerValid_iff, getD_map_rev8]

/-- Settles O31: the run of a whole exchange of the poll frame, with POLL's own last step by the marker. -/
theorem pollRunUpdatesTheSnapshot : Obligations.PollRunUpdatesTheSnapshot := by
  intro s rs cmds more hphase hin hport hlen hans
  have hlen' : (rs.map rev8).length = 9 := by rw [List.length_map, hlen]
  have hrun := runSteps_exchange hphase hport (i := .poll) (by decide) rfl hlen (.of_empty _ hin) hans
  have hmarker := markerValid_map_rev8 rs
  split_ifs with hvalid
  · rw [exchangeFinish, finishPoll, if_pos (hmarker.2 hvalid)] at hrun
    exact ⟨_, hrun, by simp [exchanging, accepted, pollFrame], rfl, rfl, hlen, rfl, rfl, rfl, rfl,
      by simp [extractPayload_toList hlen']⟩
  · rw [exchangeFinish, finishPoll, if_neg (mt hmarker.1 hvalid)] at hrun
    exact ⟨_, hrun, by simp [exchanging, accepted, pollFrame], rfl, rfl, hlen, rfl, rfl, rfl, rfl, rfl⟩

/-- Settles O48: by O47 no other step than a reset clears the flag, and a reset records itself last. -/
theorem connectedIsSticky : Obligations.ConnectedIsSticky := by
  intro s t hstep hset hclear
  obtain ⟨-, hkept⟩ | ⟨-, -, -, -, hstores, -⟩ | ⟨hrst, hlevel, -⟩ := onlyAValidPollWritesTheSnapshot s t hstep
  · simp [hkept, hset] at hclear
  · simp [hstores] at hclear
  · rw [step_of_asserted hlevel hrst] at hstep
    cases hstep
    refine ⟨hrst, hlevel, ?_⟩
    cases hcs : s.csN with
    | low => exact ⟨[.csDeassert], by simp [resetEvents]⟩
    | high => exact ⟨[], by simp [resetEvents]⟩

end Sys2Proof.Machine

/-! Reset and hazards (`70_reset_and_hazards.md`): asserting and holding RST, a reset inside a select frame, and a
Transport that never answers. -/

namespace Sys2Proof.Machine

/-! ### A silent Transport -/

/-- Settles O29: the step is a transfer without an answer, which stops or waits by what RST has to come. -/
theorem silentTransportHoldsTheBlock : Obligations.SilentTransportHoldsTheBlock := by
  intro i p s hframe hstage hidx hans
  rw [exec_of_transfer hframe hstage hidx]
  split_ifs with hin
  · exact transfer_of_silence hans hin
  · exact transfer_of_wait hans hin

/-! ### Asserting and holding RST -/

/-- The level of RST a step samples is the first of those to come. -/
theorem rstNow_of_cons {s : State} {level : Bool} {levels : List Bool} (hin : s.rstIn = level :: levels) :
    rstNow s = level := by
  rw [rstNow, hin, List.headD_cons]

/-- The step at which RST becomes asserted is the reset of R116, its level taken from those to come. -/
theorem step_asserts {s : State} {levels : List Bool} (hin : s.rstIn = true :: levels) (hrst : s.rst = false) :
    step s = .next (applyReset { s with rstIn := levels, rst := true }) := by
  rw [step_of_asserted (rstNow_of_cons hin) hrst, hin, List.tail_cons]

/-- The events of a reset, by the level of select it meets (R39, R116). -/
theorem resetEvents_eq_ite (level : Level) :
    resetEvents level = if level = .low then [.csDeassert, .reset] else [.reset] := by
  cases level <;> rfl

/-- Settles O38: the step is the reset of R116, whose events are by the level of select. -/
theorem resetReturnsTheBlockToIdle : Obligations.ResetReturnsTheBlockToIdle := by
  intro s levels hin hrst
  refine ⟨_, step_asserts hin hrst, ?_, rfl, rfl, rfl, rfl, rfl, rfl, rfl, rfl, rfl, rfl⟩
  rw [applyReset_bus, resetEvents_eq_ite]

/-- Settles O39: the step at which RST stays asserted only samples it. -/
theorem heldResetAcceptsNothing : Obligations.HeldResetAcceptsNothing := by
  intro s levels hin hrst
  rw [step_of_held (rstNow_of_cons hin) hrst, hin, List.tail_cons, ← hrst]

/-! ### A reset inside a select frame -/

/-- The first `n` levels to come are not asserted. -/
theorem ReleasedFor.of_replicate {n : Nat} {s : State} {levels : List Bool}
    (hin : s.rstIn = List.replicate n false ++ levels) : ReleasedFor n s := by
  intro k hk
  rw [hin, List.getD_append _ _ _ _ (by simpa using hk), List.getD_replicate _ hk]

/-- Once its command is accepted and `n` levels of RST are sampled, the block has the levels after them to come. -/
theorem accepted_rstIn_of_replicate {n : Nat} {s : State} {levels : List Bool} (cmd : Command)
    (cmds : List Command) (more : List Answer) (hin : s.rstIn = List.replicate n false ++ levels) :
    (accepted cmd cmds n more s).rstIn = levels := by
  rw [accepted, hin, List.drop_left' List.length_replicate]

/-- RST asserted while select is asserted: the reset closes the select frame itself and the command delivers no
response (R116, R117). -/
theorem step_resets_selected {s : State} {levels : List Bool} (hin : s.rstIn = true :: levels)
    (hrst : s.rst = false) (hlow : s.csN = .low) :
    ∃ t, step s = .next t ∧ t.bus = s.bus ++ [.csDeassert, .reset] ∧ t.responses = s.responses ∧
      t.connected = false ∧ t.phase = .idle ∧ t.csN = .high ∧ t.xidx = 0 ∧ t.port = s.port ∧
      t.answers = s.answers ∧ t.rstIn = levels := by
  obtain ⟨t, hstep, hbus, hselect, hconnected, hphase, hxidx, hresponses, hport, hanswers, -, -, hlevels⟩ :=
    resetReturnsTheBlockToIdle s levels hin hrst
  rw [if_pos hlow] at hbus
  exact ⟨t, hstep, hbus, hresponses, hconnected, hphase, hselect, hxidx, hport, hanswers, hlevels⟩

/-- Settles O33: after `j` transfers select is still asserted, the last transfer done or not. -/
theorem resetAbortsAnExchange : Obligations.ResetAbortsAnExchange := by
  intro s cmd i p rs cmds more levels hphase hin hport hdec hframe hlen hans
  have hrun := runSteps_exchanging hphase hport hdec hframe hlen (.of_replicate hin) hans
  obtain ⟨t, hreset, hbus, hafter⟩ :=
    step_resets_selected (s := exchanging p rs (accepted cmd cmds (rs.length + 2) more s))
      (accepted_rstIn_of_replicate cmd cmds more hin) rfl rfl
  refine ⟨t, runSteps_snoc hrun hreset, ?_, hafter⟩
  simp [hbus, exchanging, accepted]

/-- Settles O58: the failed transfer leaves select asserted and the response to a later step, which the reset comes
before. -/
theorem resetAfterAFailedTransfer : Obligations.ResetAfterAFailedTransfer := by
  intro s cmd i p rs cmds more levels hphase hin hport hdec hframe hlen hans hcan
  have hp := exchangeFrame_length_le (decode_wf hdec) hframe
  have hrun := runSteps_failing hphase hport hdec hframe hlen (.of_replicate hin) hans hcan
  obtain ⟨u, hreset, hbus, hafter⟩ :=
    step_resets_selected (s := failTransfer (exchanging p rs (accepted cmd cmds (rs.length + 3) more s)))
      (accepted_rstIn_of_replicate cmd cmds more hin) rfl rfl
  refine ⟨_, u, hrun, rfl, ?_, hreset, hbus, hafter⟩
  rw [failTransfer_bus, outByte_exchanging _ hp hlen]
  simp [exchanging, accepted]

end Sys2Proof.Machine
